-- ==== Sys2Proof/Word.lean ====
section
/-! DEFINITION. The two widths of the machine (spec/00_scope.md R6): bytes and 16-bit words. -/

namespace Sys2Proof

/-- The data width, 8 bits (R6): A, X, Y, SP and every memory cell. -/
abbrev Byte := BitVec 8

/-- The address width, 16 bits (R6): PC and every bus address. -/
abbrev Word := BitVec 16

end Sys2Proof
end

