-- ==== Sys2Proof/Syntax.lean ====
section
/-! DEFINITION. The instructions: one constructor per row of spec/opcode_table.json (spec/30_encoding.md, rules R70 to R75). -/

namespace Sys2Proof

/-- One constructor per opcode byte. The name is the row's mnemonic and its addressing mode (R72); the argument is the
operand the mode takes from the instruction stream (R73): a byte, a little-endian word, or the signed displacement of the
relative mode, kept as the integer that R73 reads it as. One-byte instructions take none. The rows with an operand stand
first, each part in the order of the opcode bytes. -/
inductive Instr where
  | oraIndx (ll : Byte)  -- 01: ORA (zp,X), R171
  | oraZp (ll : Byte)  -- 05: ORA zero-page, R171
  | aslZp (ll : Byte)  -- 06: ASL zero-page, R175
  | oraImm (v : Byte)  -- 09: ORA immediate, R171
  | oraAbs (w : Word)  -- 0D: ORA absolute, R171
  | aslAbs (w : Word)  -- 0E: ASL absolute, R175
  | bpl (off : Int)  -- 10: BPL relative, R201
  | oraIndy (ll : Byte)  -- 11: ORA (zp),Y, R171
  | oraZpx (ll : Byte)  -- 15: ORA zero-page,X, R171
  | aslZpx (ll : Byte)  -- 16: ASL zero-page,X, R175
  | oraAbsy (w : Word)  -- 19: ORA absolute,Y, R171
  | oraAbsx (w : Word)  -- 1D: ORA absolute,X, R171
  | aslAbsx (w : Word)  -- 1E: ASL absolute,X, R175
  | jsr (w : Word)  -- 20: JSR absolute, R210
  | andIndx (ll : Byte)  -- 21: AND (zp,X), R170
  | bitZp (ll : Byte)  -- 24: BIT zero-page, R173
  | andZp (ll : Byte)  -- 25: AND zero-page, R170
  | rolZp (ll : Byte)  -- 26: ROL zero-page, R177
  | andImm (v : Byte)  -- 29: AND immediate, R170
  | bitAbs (w : Word)  -- 2C: BIT absolute, R173
  | andAbs (w : Word)  -- 2D: AND absolute, R170
  | rolAbs (w : Word)  -- 2E: ROL absolute, R177
  | bmi (off : Int)  -- 30: BMI relative, R202
  | andIndy (ll : Byte)  -- 31: AND (zp),Y, R170
  | andZpx (ll : Byte)  -- 35: AND zero-page,X, R170
  | rolZpx (ll : Byte)  -- 36: ROL zero-page,X, R177
  | andAbsy (w : Word)  -- 39: AND absolute,Y, R170
  | andAbsx (w : Word)  -- 3D: AND absolute,X, R170
  | rolAbsx (w : Word)  -- 3E: ROL absolute,X, R177
  | eorIndx (ll : Byte)  -- 41: EOR (zp,X), R172
  | eorZp (ll : Byte)  -- 45: EOR zero-page, R172
  | lsrZp (ll : Byte)  -- 46: LSR zero-page, R176
  | eorImm (v : Byte)  -- 49: EOR immediate, R172
  | jmpAbs (w : Word)  -- 4C: JMP absolute, R209
  | eorAbs (w : Word)  -- 4D: EOR absolute, R172
  | lsrAbs (w : Word)  -- 4E: LSR absolute, R176
  | bvc (off : Int)  -- 50: BVC relative, R203
  | eorIndy (ll : Byte)  -- 51: EOR (zp),Y, R172
  | eorZpx (ll : Byte)  -- 55: EOR zero-page,X, R172
  | lsrZpx (ll : Byte)  -- 56: LSR zero-page,X, R176
  | eorAbsy (w : Word)  -- 59: EOR absolute,Y, R172
  | eorAbsx (w : Word)  -- 5D: EOR absolute,X, R172
  | lsrAbsx (w : Word)  -- 5E: LSR absolute,X, R176
  | adcIndx (ll : Byte)  -- 61: ADC (zp,X), R151
  | adcZp (ll : Byte)  -- 65: ADC zero-page, R151
  | rorZp (ll : Byte)  -- 66: ROR zero-page, R178
  | adcImm (v : Byte)  -- 69: ADC immediate, R151
  | jmpInd (w : Word)  -- 6C: JMP indirect, R209
  | adcAbs (w : Word)  -- 6D: ADC absolute, R151
  | rorAbs (w : Word)  -- 6E: ROR absolute, R178
  | bvs (off : Int)  -- 70: BVS relative, R204
  | adcIndy (ll : Byte)  -- 71: ADC (zp),Y, R151
  | adcZpx (ll : Byte)  -- 75: ADC zero-page,X, R151
  | rorZpx (ll : Byte)  -- 76: ROR zero-page,X, R178
  | adcAbsy (w : Word)  -- 79: ADC absolute,Y, R151
  | adcAbsx (w : Word)  -- 7D: ADC absolute,X, R151
  | rorAbsx (w : Word)  -- 7E: ROR absolute,X, R178
  | staIndx (ll : Byte)  -- 81: STA (zp,X), R134
  | styZp (ll : Byte)  -- 84: STY zero-page, R136
  | staZp (ll : Byte)  -- 85: STA zero-page, R134
  | stxZp (ll : Byte)  -- 86: STX zero-page, R135
  | styAbs (w : Word)  -- 8C: STY absolute, R136
  | staAbs (w : Word)  -- 8D: STA absolute, R134
  | stxAbs (w : Word)  -- 8E: STX absolute, R135
  | bcc (off : Int)  -- 90: BCC relative, R205
  | staIndy (ll : Byte)  -- 91: STA (zp),Y, R134
  | styZpx (ll : Byte)  -- 94: STY zero-page,X, R136
  | staZpx (ll : Byte)  -- 95: STA zero-page,X, R134
  | stxZpy (ll : Byte)  -- 96: STX zero-page,Y, R135
  | staAbsy (w : Word)  -- 99: STA absolute,Y, R134
  | staAbsx (w : Word)  -- 9D: STA absolute,X, R134
  | ldyImm (v : Byte)  -- A0: LDY immediate, R133
  | ldaIndx (ll : Byte)  -- A1: LDA (zp,X), R131
  | ldxImm (v : Byte)  -- A2: LDX immediate, R132
  | ldyZp (ll : Byte)  -- A4: LDY zero-page, R133
  | ldaZp (ll : Byte)  -- A5: LDA zero-page, R131
  | ldxZp (ll : Byte)  -- A6: LDX zero-page, R132
  | ldaImm (v : Byte)  -- A9: LDA immediate, R131
  | ldyAbs (w : Word)  -- AC: LDY absolute, R133
  | ldaAbs (w : Word)  -- AD: LDA absolute, R131
  | ldxAbs (w : Word)  -- AE: LDX absolute, R132
  | bcs (off : Int)  -- B0: BCS relative, R206
  | ldaIndy (ll : Byte)  -- B1: LDA (zp),Y, R131
  | ldyZpx (ll : Byte)  -- B4: LDY zero-page,X, R133
  | ldaZpx (ll : Byte)  -- B5: LDA zero-page,X, R131
  | ldxZpy (ll : Byte)  -- B6: LDX zero-page,Y, R132
  | ldaAbsy (w : Word)  -- B9: LDA absolute,Y, R131
  | ldyAbsx (w : Word)  -- BC: LDY absolute,X, R133
  | ldaAbsx (w : Word)  -- BD: LDA absolute,X, R131
  | ldxAbsy (w : Word)  -- BE: LDX absolute,Y, R132
  | cpyImm (v : Byte)  -- C0: CPY immediate, R156
  | cmpIndx (ll : Byte)  -- C1: CMP (zp,X), R154
  | cpyZp (ll : Byte)  -- C4: CPY zero-page, R156
  | cmpZp (ll : Byte)  -- C5: CMP zero-page, R154
  | decZp (ll : Byte)  -- C6: DEC zero-page, R158
  | cmpImm (v : Byte)  -- C9: CMP immediate, R154
  | cpyAbs (w : Word)  -- CC: CPY absolute, R156
  | cmpAbs (w : Word)  -- CD: CMP absolute, R154
  | decAbs (w : Word)  -- CE: DEC absolute, R158
  | bne (off : Int)  -- D0: BNE relative, R207
  | cmpIndy (ll : Byte)  -- D1: CMP (zp),Y, R154
  | cmpZpx (ll : Byte)  -- D5: CMP zero-page,X, R154
  | decZpx (ll : Byte)  -- D6: DEC zero-page,X, R158
  | cmpAbsy (w : Word)  -- D9: CMP absolute,Y, R154
  | cmpAbsx (w : Word)  -- DD: CMP absolute,X, R154
  | decAbsx (w : Word)  -- DE: DEC absolute,X, R158
  | cpxImm (v : Byte)  -- E0: CPX immediate, R155
  | sbcIndx (ll : Byte)  -- E1: SBC (zp,X), R152
  | cpxZp (ll : Byte)  -- E4: CPX zero-page, R155
  | sbcZp (ll : Byte)  -- E5: SBC zero-page, R152
  | incZp (ll : Byte)  -- E6: INC zero-page, R157
  | sbcImm (v : Byte)  -- E9: SBC immediate, R152
  | cpxAbs (w : Word)  -- EC: CPX absolute, R155
  | sbcAbs (w : Word)  -- ED: SBC absolute, R152
  | incAbs (w : Word)  -- EE: INC absolute, R157
  | beq (off : Int)  -- F0: BEQ relative, R208
  | sbcIndy (ll : Byte)  -- F1: SBC (zp),Y, R152
  | sbcZpx (ll : Byte)  -- F5: SBC zero-page,X, R152
  | incZpx (ll : Byte)  -- F6: INC zero-page,X, R157
  | sbcAbsy (w : Word)  -- F9: SBC absolute,Y, R152
  | sbcAbsx (w : Word)  -- FD: SBC absolute,X, R152
  | incAbsx (w : Word)  -- FE: INC absolute,X, R157
  | brk  -- 00: BRK implied, R228
  | unmapped02  -- 02: unmapped, R75, R230
  | unmapped03  -- 03: unmapped, R75, R230
  | unmapped04  -- 04: unmapped, R75, R230
  | unmapped07  -- 07: unmapped, R75, R230
  | php  -- 08: PHP implied, R196
  | aslAcc  -- 0A: ASL accumulator, R175
  | unmapped0B  -- 0B: unmapped, R75, R230
  | unmapped0C  -- 0C: unmapped, R75, R230
  | unmapped0F  -- 0F: unmapped, R75, R230
  | unmapped12  -- 12: unmapped, R75, R230
  | unmapped13  -- 13: unmapped, R75, R230
  | unmapped14  -- 14: unmapped, R75, R230
  | unmapped17  -- 17: unmapped, R75, R230
  | clc  -- 18: CLC implied, R220
  | unmapped1A  -- 1A: unmapped, R75, R230
  | unmapped1B  -- 1B: unmapped, R75, R230
  | unmapped1C  -- 1C: unmapped, R75, R230
  | unmapped1F  -- 1F: unmapped, R75, R230
  | unmapped22  -- 22: unmapped, R75, R230
  | unmapped23  -- 23: unmapped, R75, R230
  | unmapped27  -- 27: unmapped, R75, R230
  | plp  -- 28: PLP implied, R197
  | rolAcc  -- 2A: ROL accumulator, R177
  | unmapped2B  -- 2B: unmapped, R75, R230
  | unmapped2F  -- 2F: unmapped, R75, R230
  | unmapped32  -- 32: unmapped, R75, R230
  | unmapped33  -- 33: unmapped, R75, R230
  | unmapped34  -- 34: unmapped, R75, R230
  | unmapped37  -- 37: unmapped, R75, R230
  | sec  -- 38: SEC implied, R221
  | unmapped3A  -- 3A: unmapped, R75, R230
  | unmapped3B  -- 3B: unmapped, R75, R230
  | unmapped3C  -- 3C: unmapped, R75, R230
  | unmapped3F  -- 3F: unmapped, R75, R230
  | rti  -- 40: RTI implied, R229
  | unmapped42  -- 42: unmapped, R75, R230
  | unmapped43  -- 43: unmapped, R75, R230
  | unmapped44  -- 44: unmapped, R75, R230
  | unmapped47  -- 47: unmapped, R75, R230
  | pha  -- 48: PHA implied, R194
  | lsrAcc  -- 4A: LSR accumulator, R176
  | unmapped4B  -- 4B: unmapped, R75, R230
  | unmapped4F  -- 4F: unmapped, R75, R230
  | unmapped52  -- 52: unmapped, R75, R230
  | unmapped53  -- 53: unmapped, R75, R230
  | unmapped54  -- 54: unmapped, R75, R230
  | unmapped57  -- 57: unmapped, R75, R230
  | cli  -- 58: CLI implied, R222
  | unmapped5A  -- 5A: unmapped, R75, R230
  | unmapped5B  -- 5B: unmapped, R75, R230
  | unmapped5C  -- 5C: unmapped, R75, R230
  | unmapped5F  -- 5F: unmapped, R75, R230
  | rts  -- 60: RTS implied, R211
  | unmapped62  -- 62: unmapped, R75, R230
  | unmapped63  -- 63: unmapped, R75, R230
  | unmapped64  -- 64: unmapped, R75, R230
  | unmapped67  -- 67: unmapped, R75, R230
  | pla  -- 68: PLA implied, R195
  | rorAcc  -- 6A: ROR accumulator, R178
  | unmapped6B  -- 6B: unmapped, R75, R230
  | unmapped6F  -- 6F: unmapped, R75, R230
  | unmapped72  -- 72: unmapped, R75, R230
  | unmapped73  -- 73: unmapped, R75, R230
  | unmapped74  -- 74: unmapped, R75, R230
  | unmapped77  -- 77: unmapped, R75, R230
  | sei  -- 78: SEI implied, R223
  | unmapped7A  -- 7A: unmapped, R75, R230
  | unmapped7B  -- 7B: unmapped, R75, R230
  | unmapped7C  -- 7C: unmapped, R75, R230
  | unmapped7F  -- 7F: unmapped, R75, R230
  | unmapped80  -- 80: unmapped, R75, R230
  | unmapped82  -- 82: unmapped, R75, R230
  | unmapped83  -- 83: unmapped, R75, R230
  | unmapped87  -- 87: unmapped, R75, R230
  | dey  -- 88: DEY implied, R162
  | unmapped89  -- 89: unmapped, R75, R230
  | txa  -- 8A: TXA implied, R139
  | unmapped8B  -- 8B: unmapped, R75, R230
  | unmapped8F  -- 8F: unmapped, R75, R230
  | unmapped92  -- 92: unmapped, R75, R230
  | unmapped93  -- 93: unmapped, R75, R230
  | unmapped97  -- 97: unmapped, R75, R230
  | tya  -- 98: TYA implied, R140
  | txs  -- 9A: TXS implied, R142
  | unmapped9B  -- 9B: unmapped, R75, R230
  | unmapped9C  -- 9C: unmapped, R75, R230
  | unmapped9E  -- 9E: unmapped, R75, R230
  | unmapped9F  -- 9F: unmapped, R75, R230
  | unmappedA3  -- A3: unmapped, R75, R230
  | unmappedA7  -- A7: unmapped, R75, R230
  | tay  -- A8: TAY implied, R138
  | tax  -- AA: TAX implied, R137
  | unmappedAB  -- AB: unmapped, R75, R230
  | unmappedAF  -- AF: unmapped, R75, R230
  | unmappedB2  -- B2: unmapped, R75, R230
  | unmappedB3  -- B3: unmapped, R75, R230
  | unmappedB7  -- B7: unmapped, R75, R230
  | clv  -- B8: CLV implied, R226
  | tsx  -- BA: TSX implied, R141
  | unmappedBB  -- BB: unmapped, R75, R230
  | unmappedBF  -- BF: unmapped, R75, R230
  | unmappedC2  -- C2: unmapped, R75, R230
  | unmappedC3  -- C3: unmapped, R75, R230
  | unmappedC7  -- C7: unmapped, R75, R230
  | iny  -- C8: INY implied, R160
  | dex  -- CA: DEX implied, R161
  | unmappedCB  -- CB: unmapped, R75, R230
  | unmappedCF  -- CF: unmapped, R75, R230
  | unmappedD2  -- D2: unmapped, R75, R230
  | unmappedD3  -- D3: unmapped, R75, R230
  | unmappedD4  -- D4: unmapped, R75, R230
  | unmappedD7  -- D7: unmapped, R75, R230
  | cld  -- D8: CLD implied, R224
  | unmappedDA  -- DA: unmapped, R75, R230
  | unmappedDB  -- DB: unmapped, R75, R230
  | unmappedDC  -- DC: unmapped, R75, R230
  | unmappedDF  -- DF: unmapped, R75, R230
  | unmappedE2  -- E2: unmapped, R75, R230
  | unmappedE3  -- E3: unmapped, R75, R230
  | unmappedE7  -- E7: unmapped, R75, R230
  | inx  -- E8: INX implied, R159
  | nop  -- EA: NOP implied, R227
  | unmappedEB  -- EB: unmapped, R75, R230
  | unmappedEF  -- EF: unmapped, R75, R230
  | unmappedF2  -- F2: unmapped, R75, R230
  | unmappedF3  -- F3: unmapped, R75, R230
  | unmappedF4  -- F4: unmapped, R75, R230
  | unmappedF7  -- F7: unmapped, R75, R230
  | sed  -- F8: SED implied, R225
  | unmappedFA  -- FA: unmapped, R75, R230
  | unmappedFB  -- FB: unmapped, R75, R230
  | unmappedFC  -- FC: unmapped, R75, R230
  | unmappedFF  -- FF: unmapped, R75, R230
  deriving DecidableEq, Repr

end Sys2Proof
end

