-- ==== Sys2Proof/WellFormed.lean ====
section
/-! DEFINITION. Which instruction terms stand for bytes of memory. -/

namespace Sys2Proof

/-- The displacements a relative operand byte can hold (spec/41_addressing_modes.md R123, spec/30_encoding.md R73, R80):
the signed bytes. -/
def validDisplacement (off : Int) : Bool := decide (-128 ≤ off ∧ off ≤ 127)

/-- The check on an instruction. The eight branches must have a displacement that fits the operand byte; every other
constructor holds exactly the bytes of its row, and the pairs of operation and mode that have no encoding
(spec/41_addressing_modes.md R126) are no constructors, so nothing else can be ill formed. -/
def Instr.wellFormed : Instr → Bool
  | .bpl off => validDisplacement off
  | .bmi off => validDisplacement off
  | .bvc off => validDisplacement off
  | .bvs off => validDisplacement off
  | .bcc off => validDisplacement off
  | .bcs off => validDisplacement off
  | .bne off => validDisplacement off
  | .beq off => validDisplacement off
  | .brk | .oraIndx _ | .unmapped02 | .unmapped03 | .unmapped04 | .oraZp _ | .aslZp _ | .unmapped07 | .php | .oraImm _
  | .aslAcc | .unmapped0B | .unmapped0C | .oraAbs _ | .aslAbs _ | .unmapped0F | .oraIndy _ | .unmapped12 | .unmapped13
  | .unmapped14 | .oraZpx _ | .aslZpx _ | .unmapped17 | .clc | .oraAbsy _ | .unmapped1A | .unmapped1B | .unmapped1C
  | .oraAbsx _ | .aslAbsx _ | .unmapped1F | .jsr _ | .andIndx _ | .unmapped22 | .unmapped23 | .bitZp _ | .andZp _
  | .rolZp _ | .unmapped27 | .plp | .andImm _ | .rolAcc | .unmapped2B | .bitAbs _ | .andAbs _ | .rolAbs _
  | .unmapped2F | .andIndy _ | .unmapped32 | .unmapped33 | .unmapped34 | .andZpx _ | .rolZpx _ | .unmapped37 | .sec
  | .andAbsy _ | .unmapped3A | .unmapped3B | .unmapped3C | .andAbsx _ | .rolAbsx _ | .unmapped3F | .rti | .eorIndx _
  | .unmapped42 | .unmapped43 | .unmapped44 | .eorZp _ | .lsrZp _ | .unmapped47 | .pha | .eorImm _ | .lsrAcc
  | .unmapped4B | .jmpAbs _ | .eorAbs _ | .lsrAbs _ | .unmapped4F | .eorIndy _ | .unmapped52 | .unmapped53
  | .unmapped54 | .eorZpx _ | .lsrZpx _ | .unmapped57 | .cli | .eorAbsy _ | .unmapped5A | .unmapped5B | .unmapped5C
  | .eorAbsx _ | .lsrAbsx _ | .unmapped5F | .rts | .adcIndx _ | .unmapped62 | .unmapped63 | .unmapped64 | .adcZp _
  | .rorZp _ | .unmapped67 | .pla | .adcImm _ | .rorAcc | .unmapped6B | .jmpInd _ | .adcAbs _ | .rorAbs _
  | .unmapped6F | .adcIndy _ | .unmapped72 | .unmapped73 | .unmapped74 | .adcZpx _ | .rorZpx _ | .unmapped77 | .sei
  | .adcAbsy _ | .unmapped7A | .unmapped7B | .unmapped7C | .adcAbsx _ | .rorAbsx _ | .unmapped7F | .unmapped80
  | .staIndx _ | .unmapped82 | .unmapped83 | .styZp _ | .staZp _ | .stxZp _ | .unmapped87 | .dey | .unmapped89 | .txa
  | .unmapped8B | .styAbs _ | .staAbs _ | .stxAbs _ | .unmapped8F | .staIndy _ | .unmapped92 | .unmapped93 | .styZpx _
  | .staZpx _ | .stxZpy _ | .unmapped97 | .tya | .staAbsy _ | .txs | .unmapped9B | .unmapped9C | .staAbsx _
  | .unmapped9E | .unmapped9F | .ldyImm _ | .ldaIndx _ | .ldxImm _ | .unmappedA3 | .ldyZp _ | .ldaZp _ | .ldxZp _
  | .unmappedA7 | .tay | .ldaImm _ | .tax | .unmappedAB | .ldyAbs _ | .ldaAbs _ | .ldxAbs _ | .unmappedAF | .ldaIndy _
  | .unmappedB2 | .unmappedB3 | .ldyZpx _ | .ldaZpx _ | .ldxZpy _ | .unmappedB7 | .clv | .ldaAbsy _ | .tsx
  | .unmappedBB | .ldyAbsx _ | .ldaAbsx _ | .ldxAbsy _ | .unmappedBF | .cpyImm _ | .cmpIndx _ | .unmappedC2
  | .unmappedC3 | .cpyZp _ | .cmpZp _ | .decZp _ | .unmappedC7 | .iny | .cmpImm _ | .dex | .unmappedCB | .cpyAbs _
  | .cmpAbs _ | .decAbs _ | .unmappedCF | .cmpIndy _ | .unmappedD2 | .unmappedD3 | .unmappedD4 | .cmpZpx _ | .decZpx _
  | .unmappedD7 | .cld | .cmpAbsy _ | .unmappedDA | .unmappedDB | .unmappedDC | .cmpAbsx _ | .decAbsx _ | .unmappedDF
  | .cpxImm _ | .sbcIndx _ | .unmappedE2 | .unmappedE3 | .cpxZp _ | .sbcZp _ | .incZp _ | .unmappedE7 | .inx
  | .sbcImm _ | .nop | .unmappedEB | .cpxAbs _ | .sbcAbs _ | .incAbs _ | .unmappedEF | .sbcIndy _ | .unmappedF2
  | .unmappedF3 | .unmappedF4 | .sbcZpx _ | .incZpx _ | .unmappedF7 | .sed | .sbcAbsy _ | .unmappedFA | .unmappedFB
  | .unmappedFC | .sbcAbsx _ | .incAbsx _ | .unmappedFF => true

/-- `Instr.wellFormed` as a proposition. -/
abbrev Instr.WellFormed (i : Instr) : Prop := i.wellFormed = true

end Sys2Proof
end

