-- ==== Sys2Proof/Decode.lean ====
section
/-! DEFINITION. Decoding and encoding (spec/30_encoding.md, rules R70 to R76), with the bit-field, extension and byte-order
helpers of spec/00_scope.md section 6 that the machine uses too. -/

namespace Sys2Proof

/-- `hi ++ lo` of spec/00_scope.md section 6: the word with these two bytes. -/
def wordOf (hi lo : Byte) : Word := hi ++ lo

/-- Bits 7:0 of a word. -/
def lowByte (w : Word) : Byte := w.extractLsb' 0 8

/-- Bits 15:8 of a word. -/
def highByte (w : Word) : Byte := w.extractLsb' 8 8

/-- `zext_16` of spec/00_scope.md section 6. -/
def zext16 (b : Byte) : Word := b.setWidth 16

/-- `signed8` of spec/00_scope.md section 6: the byte read as two's complement. -/
def signed8 (b : Byte) : Int := b.toInt

/-- `sext_16` of an operand byte already read as a signed integer (R123): the integer modulo 65536. -/
def wordOfInt (off : Int) : Word := BitVec.ofInt 16 off

/-- The operand byte of a displacement: its value modulo 256 (R80). -/
def byteOfInt (off : Int) : Byte := BitVec.ofInt 8 off

/-- One entry of the decode table: what the operand bytes after the opcode make of it (R72). -/
inductive Form where
  /-- Implied, accumulator or unmapped: one byte in all. -/
  | plain (i : Instr)
  /-- One unsigned operand byte follows. -/
  | byte (k : Byte → Instr)
  /-- Two operand bytes follow, low byte first (R73). -/
  | word (k : Word → Instr)
  /-- One operand byte follows, read as signed (R73, R123). -/
  | rel (k : Int → Instr)

/-- The instruction's length in bytes, decided by the opcode alone (R76). -/
def Form.length : Form → Nat
  | .plain _ => 1
  | .byte _ => 2
  | .word _ => 3
  | .rel _ => 2

/-- Row 0x of the matrix of R74; the entries it leaves blank are the unmapped bytes of R75. -/
def decodeRow0 : List Form := [
  .plain .brk, .byte .oraIndx, .plain .unmapped02, .plain .unmapped03,
  .plain .unmapped04, .byte .oraZp, .byte .aslZp, .plain .unmapped07,
  .plain .php, .byte .oraImm, .plain .aslAcc, .plain .unmapped0B,
  .plain .unmapped0C, .word .oraAbs, .word .aslAbs, .plain .unmapped0F]

/-- Row 1x of the matrix of R74; the entries it leaves blank are the unmapped bytes of R75. -/
def decodeRow1 : List Form := [
  .rel .bpl, .byte .oraIndy, .plain .unmapped12, .plain .unmapped13,
  .plain .unmapped14, .byte .oraZpx, .byte .aslZpx, .plain .unmapped17,
  .plain .clc, .word .oraAbsy, .plain .unmapped1A, .plain .unmapped1B,
  .plain .unmapped1C, .word .oraAbsx, .word .aslAbsx, .plain .unmapped1F]

/-- Row 2x of the matrix of R74; the entries it leaves blank are the unmapped bytes of R75. -/
def decodeRow2 : List Form := [
  .word .jsr, .byte .andIndx, .plain .unmapped22, .plain .unmapped23,
  .byte .bitZp, .byte .andZp, .byte .rolZp, .plain .unmapped27,
  .plain .plp, .byte .andImm, .plain .rolAcc, .plain .unmapped2B,
  .word .bitAbs, .word .andAbs, .word .rolAbs, .plain .unmapped2F]

/-- Row 3x of the matrix of R74; the entries it leaves blank are the unmapped bytes of R75. -/
def decodeRow3 : List Form := [
  .rel .bmi, .byte .andIndy, .plain .unmapped32, .plain .unmapped33,
  .plain .unmapped34, .byte .andZpx, .byte .rolZpx, .plain .unmapped37,
  .plain .sec, .word .andAbsy, .plain .unmapped3A, .plain .unmapped3B,
  .plain .unmapped3C, .word .andAbsx, .word .rolAbsx, .plain .unmapped3F]

/-- Row 4x of the matrix of R74; the entries it leaves blank are the unmapped bytes of R75. -/
def decodeRow4 : List Form := [
  .plain .rti, .byte .eorIndx, .plain .unmapped42, .plain .unmapped43,
  .plain .unmapped44, .byte .eorZp, .byte .lsrZp, .plain .unmapped47,
  .plain .pha, .byte .eorImm, .plain .lsrAcc, .plain .unmapped4B,
  .word .jmpAbs, .word .eorAbs, .word .lsrAbs, .plain .unmapped4F]

/-- Row 5x of the matrix of R74; the entries it leaves blank are the unmapped bytes of R75. -/
def decodeRow5 : List Form := [
  .rel .bvc, .byte .eorIndy, .plain .unmapped52, .plain .unmapped53,
  .plain .unmapped54, .byte .eorZpx, .byte .lsrZpx, .plain .unmapped57,
  .plain .cli, .word .eorAbsy, .plain .unmapped5A, .plain .unmapped5B,
  .plain .unmapped5C, .word .eorAbsx, .word .lsrAbsx, .plain .unmapped5F]

/-- Row 6x of the matrix of R74; the entries it leaves blank are the unmapped bytes of R75. -/
def decodeRow6 : List Form := [
  .plain .rts, .byte .adcIndx, .plain .unmapped62, .plain .unmapped63,
  .plain .unmapped64, .byte .adcZp, .byte .rorZp, .plain .unmapped67,
  .plain .pla, .byte .adcImm, .plain .rorAcc, .plain .unmapped6B,
  .word .jmpInd, .word .adcAbs, .word .rorAbs, .plain .unmapped6F]

/-- Row 7x of the matrix of R74; the entries it leaves blank are the unmapped bytes of R75. -/
def decodeRow7 : List Form := [
  .rel .bvs, .byte .adcIndy, .plain .unmapped72, .plain .unmapped73,
  .plain .unmapped74, .byte .adcZpx, .byte .rorZpx, .plain .unmapped77,
  .plain .sei, .word .adcAbsy, .plain .unmapped7A, .plain .unmapped7B,
  .plain .unmapped7C, .word .adcAbsx, .word .rorAbsx, .plain .unmapped7F]

/-- Row 8x of the matrix of R74; the entries it leaves blank are the unmapped bytes of R75. -/
def decodeRow8 : List Form := [
  .plain .unmapped80, .byte .staIndx, .plain .unmapped82, .plain .unmapped83,
  .byte .styZp, .byte .staZp, .byte .stxZp, .plain .unmapped87,
  .plain .dey, .plain .unmapped89, .plain .txa, .plain .unmapped8B,
  .word .styAbs, .word .staAbs, .word .stxAbs, .plain .unmapped8F]

/-- Row 9x of the matrix of R74; the entries it leaves blank are the unmapped bytes of R75. -/
def decodeRow9 : List Form := [
  .rel .bcc, .byte .staIndy, .plain .unmapped92, .plain .unmapped93,
  .byte .styZpx, .byte .staZpx, .byte .stxZpy, .plain .unmapped97,
  .plain .tya, .word .staAbsy, .plain .txs, .plain .unmapped9B,
  .plain .unmapped9C, .word .staAbsx, .plain .unmapped9E, .plain .unmapped9F]

/-- Row Ax of the matrix of R74; the entries it leaves blank are the unmapped bytes of R75. -/
def decodeRowA : List Form := [
  .byte .ldyImm, .byte .ldaIndx, .byte .ldxImm, .plain .unmappedA3,
  .byte .ldyZp, .byte .ldaZp, .byte .ldxZp, .plain .unmappedA7,
  .plain .tay, .byte .ldaImm, .plain .tax, .plain .unmappedAB,
  .word .ldyAbs, .word .ldaAbs, .word .ldxAbs, .plain .unmappedAF]

/-- Row Bx of the matrix of R74; the entries it leaves blank are the unmapped bytes of R75. -/
def decodeRowB : List Form := [
  .rel .bcs, .byte .ldaIndy, .plain .unmappedB2, .plain .unmappedB3,
  .byte .ldyZpx, .byte .ldaZpx, .byte .ldxZpy, .plain .unmappedB7,
  .plain .clv, .word .ldaAbsy, .plain .tsx, .plain .unmappedBB,
  .word .ldyAbsx, .word .ldaAbsx, .word .ldxAbsy, .plain .unmappedBF]

/-- Row Cx of the matrix of R74; the entries it leaves blank are the unmapped bytes of R75. -/
def decodeRowC : List Form := [
  .byte .cpyImm, .byte .cmpIndx, .plain .unmappedC2, .plain .unmappedC3,
  .byte .cpyZp, .byte .cmpZp, .byte .decZp, .plain .unmappedC7,
  .plain .iny, .byte .cmpImm, .plain .dex, .plain .unmappedCB,
  .word .cpyAbs, .word .cmpAbs, .word .decAbs, .plain .unmappedCF]

/-- Row Dx of the matrix of R74; the entries it leaves blank are the unmapped bytes of R75. -/
def decodeRowD : List Form := [
  .rel .bne, .byte .cmpIndy, .plain .unmappedD2, .plain .unmappedD3,
  .plain .unmappedD4, .byte .cmpZpx, .byte .decZpx, .plain .unmappedD7,
  .plain .cld, .word .cmpAbsy, .plain .unmappedDA, .plain .unmappedDB,
  .plain .unmappedDC, .word .cmpAbsx, .word .decAbsx, .plain .unmappedDF]

/-- Row Ex of the matrix of R74; the entries it leaves blank are the unmapped bytes of R75. -/
def decodeRowE : List Form := [
  .byte .cpxImm, .byte .sbcIndx, .plain .unmappedE2, .plain .unmappedE3,
  .byte .cpxZp, .byte .sbcZp, .byte .incZp, .plain .unmappedE7,
  .plain .inx, .byte .sbcImm, .plain .nop, .plain .unmappedEB,
  .word .cpxAbs, .word .sbcAbs, .word .incAbs, .plain .unmappedEF]

/-- Row Fx of the matrix of R74; the entries it leaves blank are the unmapped bytes of R75. -/
def decodeRowF : List Form := [
  .rel .beq, .byte .sbcIndy, .plain .unmappedF2, .plain .unmappedF3,
  .plain .unmappedF4, .byte .sbcZpx, .byte .incZpx, .plain .unmappedF7,
  .plain .sed, .word .sbcAbsy, .plain .unmappedFA, .plain .unmappedFB,
  .plain .unmappedFC, .word .sbcAbsx, .word .incAbsx, .plain .unmappedFF]

/-- The 256-entry decode table (R71, R74, R75), indexed by the opcode byte. -/
def decodeTable : List Form :=
  decodeRow0 ++ decodeRow1 ++ decodeRow2 ++ decodeRow3 ++ decodeRow4 ++ decodeRow5 ++ decodeRow6 ++ decodeRow7 ++
  decodeRow8 ++ decodeRow9 ++ decodeRowA ++ decodeRowB ++ decodeRowC ++ decodeRowD ++ decodeRowE ++ decodeRowF

/-- Entry `n` of a list of forms; past the end (never, for a byte and the whole table) the last unmapped byte. -/
def formAt : List Form → Nat → Form
  | [], _ => .plain .unmappedFF
  | f :: _, 0 => f
  | _ :: fs, n + 1 => formAt fs n

/-- The table entry of an opcode byte. -/
def formOf (opcode : Byte) : Form := formAt decodeTable opcode.toNat

/-- Why bytes are no instruction. Every opcode byte decodes (R71), so only a text that ends too early is refused. -/
inductive DecodeError where
  /-- There is no opcode byte. -/
  | noOpcode
  /-- The text ends inside the operand of an instruction. -/
  | operandMissing
  deriving DecidableEq, Repr

/-- The first instruction of a text of bytes and the bytes after it (R70, R73, R76). -/
def decode : List Byte → Except DecodeError (Instr × List Byte)
  | [] => .error .noOpcode
  | opcode :: rest =>
    match formOf opcode, rest with
    | .plain i, rest => .ok (i, rest)
    | .byte k, b :: rest => .ok (k b, rest)
    | .rel k, b :: rest => .ok (k (signed8 b), rest)
    | .word k, lo :: hi :: rest => .ok (k (wordOf hi lo), rest)
    | .byte _, [] => .error .operandMissing
    | .rel _, [] => .error .operandMissing
    | .word _, [] => .error .operandMissing
    | .word _, [_] => .error .operandMissing

/-- The bytes of an instruction, lowest address first, from the table by operation of R74 and the formats of R72. -/
def encode : Instr → List Byte
  | .adcIndx ll => [0x61, ll]
  | .adcZp ll => [0x65, ll]
  | .adcImm v => [0x69, v]
  | .adcAbs w => [0x6D, lowByte w, highByte w]
  | .adcIndy ll => [0x71, ll]
  | .adcZpx ll => [0x75, ll]
  | .adcAbsy w => [0x79, lowByte w, highByte w]
  | .adcAbsx w => [0x7D, lowByte w, highByte w]
  | .andIndx ll => [0x21, ll]
  | .andZp ll => [0x25, ll]
  | .andImm v => [0x29, v]
  | .andAbs w => [0x2D, lowByte w, highByte w]
  | .andIndy ll => [0x31, ll]
  | .andZpx ll => [0x35, ll]
  | .andAbsy w => [0x39, lowByte w, highByte w]
  | .andAbsx w => [0x3D, lowByte w, highByte w]
  | .aslZp ll => [0x06, ll]
  | .aslAcc => [0x0A]
  | .aslAbs w => [0x0E, lowByte w, highByte w]
  | .aslZpx ll => [0x16, ll]
  | .aslAbsx w => [0x1E, lowByte w, highByte w]
  | .bcc off => [0x90, byteOfInt off]
  | .bcs off => [0xB0, byteOfInt off]
  | .beq off => [0xF0, byteOfInt off]
  | .bitZp ll => [0x24, ll]
  | .bitAbs w => [0x2C, lowByte w, highByte w]
  | .bmi off => [0x30, byteOfInt off]
  | .bne off => [0xD0, byteOfInt off]
  | .bpl off => [0x10, byteOfInt off]
  | .brk => [0x00]
  | .bvc off => [0x50, byteOfInt off]
  | .bvs off => [0x70, byteOfInt off]
  | .clc => [0x18]
  | .cld => [0xD8]
  | .cli => [0x58]
  | .clv => [0xB8]
  | .cmpIndx ll => [0xC1, ll]
  | .cmpZp ll => [0xC5, ll]
  | .cmpImm v => [0xC9, v]
  | .cmpAbs w => [0xCD, lowByte w, highByte w]
  | .cmpIndy ll => [0xD1, ll]
  | .cmpZpx ll => [0xD5, ll]
  | .cmpAbsy w => [0xD9, lowByte w, highByte w]
  | .cmpAbsx w => [0xDD, lowByte w, highByte w]
  | .cpxImm v => [0xE0, v]
  | .cpxZp ll => [0xE4, ll]
  | .cpxAbs w => [0xEC, lowByte w, highByte w]
  | .cpyImm v => [0xC0, v]
  | .cpyZp ll => [0xC4, ll]
  | .cpyAbs w => [0xCC, lowByte w, highByte w]
  | .decZp ll => [0xC6, ll]
  | .decAbs w => [0xCE, lowByte w, highByte w]
  | .decZpx ll => [0xD6, ll]
  | .decAbsx w => [0xDE, lowByte w, highByte w]
  | .dex => [0xCA]
  | .dey => [0x88]
  | .eorIndx ll => [0x41, ll]
  | .eorZp ll => [0x45, ll]
  | .eorImm v => [0x49, v]
  | .eorAbs w => [0x4D, lowByte w, highByte w]
  | .eorIndy ll => [0x51, ll]
  | .eorZpx ll => [0x55, ll]
  | .eorAbsy w => [0x59, lowByte w, highByte w]
  | .eorAbsx w => [0x5D, lowByte w, highByte w]
  | .incZp ll => [0xE6, ll]
  | .incAbs w => [0xEE, lowByte w, highByte w]
  | .incZpx ll => [0xF6, ll]
  | .incAbsx w => [0xFE, lowByte w, highByte w]
  | .inx => [0xE8]
  | .iny => [0xC8]
  | .jmpAbs w => [0x4C, lowByte w, highByte w]
  | .jmpInd w => [0x6C, lowByte w, highByte w]
  | .jsr w => [0x20, lowByte w, highByte w]
  | .ldaIndx ll => [0xA1, ll]
  | .ldaZp ll => [0xA5, ll]
  | .ldaImm v => [0xA9, v]
  | .ldaAbs w => [0xAD, lowByte w, highByte w]
  | .ldaIndy ll => [0xB1, ll]
  | .ldaZpx ll => [0xB5, ll]
  | .ldaAbsy w => [0xB9, lowByte w, highByte w]
  | .ldaAbsx w => [0xBD, lowByte w, highByte w]
  | .ldxImm v => [0xA2, v]
  | .ldxZp ll => [0xA6, ll]
  | .ldxAbs w => [0xAE, lowByte w, highByte w]
  | .ldxZpy ll => [0xB6, ll]
  | .ldxAbsy w => [0xBE, lowByte w, highByte w]
  | .ldyImm v => [0xA0, v]
  | .ldyZp ll => [0xA4, ll]
  | .ldyAbs w => [0xAC, lowByte w, highByte w]
  | .ldyZpx ll => [0xB4, ll]
  | .ldyAbsx w => [0xBC, lowByte w, highByte w]
  | .lsrZp ll => [0x46, ll]
  | .lsrAcc => [0x4A]
  | .lsrAbs w => [0x4E, lowByte w, highByte w]
  | .lsrZpx ll => [0x56, ll]
  | .lsrAbsx w => [0x5E, lowByte w, highByte w]
  | .nop => [0xEA]
  | .oraIndx ll => [0x01, ll]
  | .oraZp ll => [0x05, ll]
  | .oraImm v => [0x09, v]
  | .oraAbs w => [0x0D, lowByte w, highByte w]
  | .oraIndy ll => [0x11, ll]
  | .oraZpx ll => [0x15, ll]
  | .oraAbsy w => [0x19, lowByte w, highByte w]
  | .oraAbsx w => [0x1D, lowByte w, highByte w]
  | .pha => [0x48]
  | .php => [0x08]
  | .pla => [0x68]
  | .plp => [0x28]
  | .rolZp ll => [0x26, ll]
  | .rolAcc => [0x2A]
  | .rolAbs w => [0x2E, lowByte w, highByte w]
  | .rolZpx ll => [0x36, ll]
  | .rolAbsx w => [0x3E, lowByte w, highByte w]
  | .rorZp ll => [0x66, ll]
  | .rorAcc => [0x6A]
  | .rorAbs w => [0x6E, lowByte w, highByte w]
  | .rorZpx ll => [0x76, ll]
  | .rorAbsx w => [0x7E, lowByte w, highByte w]
  | .rti => [0x40]
  | .rts => [0x60]
  | .sbcIndx ll => [0xE1, ll]
  | .sbcZp ll => [0xE5, ll]
  | .sbcImm v => [0xE9, v]
  | .sbcAbs w => [0xED, lowByte w, highByte w]
  | .sbcIndy ll => [0xF1, ll]
  | .sbcZpx ll => [0xF5, ll]
  | .sbcAbsy w => [0xF9, lowByte w, highByte w]
  | .sbcAbsx w => [0xFD, lowByte w, highByte w]
  | .sec => [0x38]
  | .sed => [0xF8]
  | .sei => [0x78]
  | .staIndx ll => [0x81, ll]
  | .staZp ll => [0x85, ll]
  | .staAbs w => [0x8D, lowByte w, highByte w]
  | .staIndy ll => [0x91, ll]
  | .staZpx ll => [0x95, ll]
  | .staAbsy w => [0x99, lowByte w, highByte w]
  | .staAbsx w => [0x9D, lowByte w, highByte w]
  | .stxZp ll => [0x86, ll]
  | .stxAbs w => [0x8E, lowByte w, highByte w]
  | .stxZpy ll => [0x96, ll]
  | .styZp ll => [0x84, ll]
  | .styAbs w => [0x8C, lowByte w, highByte w]
  | .styZpx ll => [0x94, ll]
  | .tax => [0xAA]
  | .tay => [0xA8]
  | .tsx => [0xBA]
  | .txa => [0x8A]
  | .txs => [0x9A]
  | .tya => [0x98]
  | .unmapped02 => [0x02]
  | .unmapped03 => [0x03]
  | .unmapped04 => [0x04]
  | .unmapped07 => [0x07]
  | .unmapped0B => [0x0B]
  | .unmapped0C => [0x0C]
  | .unmapped0F => [0x0F]
  | .unmapped12 => [0x12]
  | .unmapped13 => [0x13]
  | .unmapped14 => [0x14]
  | .unmapped17 => [0x17]
  | .unmapped1A => [0x1A]
  | .unmapped1B => [0x1B]
  | .unmapped1C => [0x1C]
  | .unmapped1F => [0x1F]
  | .unmapped22 => [0x22]
  | .unmapped23 => [0x23]
  | .unmapped27 => [0x27]
  | .unmapped2B => [0x2B]
  | .unmapped2F => [0x2F]
  | .unmapped32 => [0x32]
  | .unmapped33 => [0x33]
  | .unmapped34 => [0x34]
  | .unmapped37 => [0x37]
  | .unmapped3A => [0x3A]
  | .unmapped3B => [0x3B]
  | .unmapped3C => [0x3C]
  | .unmapped3F => [0x3F]
  | .unmapped42 => [0x42]
  | .unmapped43 => [0x43]
  | .unmapped44 => [0x44]
  | .unmapped47 => [0x47]
  | .unmapped4B => [0x4B]
  | .unmapped4F => [0x4F]
  | .unmapped52 => [0x52]
  | .unmapped53 => [0x53]
  | .unmapped54 => [0x54]
  | .unmapped57 => [0x57]
  | .unmapped5A => [0x5A]
  | .unmapped5B => [0x5B]
  | .unmapped5C => [0x5C]
  | .unmapped5F => [0x5F]
  | .unmapped62 => [0x62]
  | .unmapped63 => [0x63]
  | .unmapped64 => [0x64]
  | .unmapped67 => [0x67]
  | .unmapped6B => [0x6B]
  | .unmapped6F => [0x6F]
  | .unmapped72 => [0x72]
  | .unmapped73 => [0x73]
  | .unmapped74 => [0x74]
  | .unmapped77 => [0x77]
  | .unmapped7A => [0x7A]
  | .unmapped7B => [0x7B]
  | .unmapped7C => [0x7C]
  | .unmapped7F => [0x7F]
  | .unmapped80 => [0x80]
  | .unmapped82 => [0x82]
  | .unmapped83 => [0x83]
  | .unmapped87 => [0x87]
  | .unmapped89 => [0x89]
  | .unmapped8B => [0x8B]
  | .unmapped8F => [0x8F]
  | .unmapped92 => [0x92]
  | .unmapped93 => [0x93]
  | .unmapped97 => [0x97]
  | .unmapped9B => [0x9B]
  | .unmapped9C => [0x9C]
  | .unmapped9E => [0x9E]
  | .unmapped9F => [0x9F]
  | .unmappedA3 => [0xA3]
  | .unmappedA7 => [0xA7]
  | .unmappedAB => [0xAB]
  | .unmappedAF => [0xAF]
  | .unmappedB2 => [0xB2]
  | .unmappedB3 => [0xB3]
  | .unmappedB7 => [0xB7]
  | .unmappedBB => [0xBB]
  | .unmappedBF => [0xBF]
  | .unmappedC2 => [0xC2]
  | .unmappedC3 => [0xC3]
  | .unmappedC7 => [0xC7]
  | .unmappedCB => [0xCB]
  | .unmappedCF => [0xCF]
  | .unmappedD2 => [0xD2]
  | .unmappedD3 => [0xD3]
  | .unmappedD4 => [0xD4]
  | .unmappedD7 => [0xD7]
  | .unmappedDA => [0xDA]
  | .unmappedDB => [0xDB]
  | .unmappedDC => [0xDC]
  | .unmappedDF => [0xDF]
  | .unmappedE2 => [0xE2]
  | .unmappedE3 => [0xE3]
  | .unmappedE7 => [0xE7]
  | .unmappedEB => [0xEB]
  | .unmappedEF => [0xEF]
  | .unmappedF2 => [0xF2]
  | .unmappedF3 => [0xF3]
  | .unmappedF4 => [0xF4]
  | .unmappedF7 => [0xF7]
  | .unmappedFA => [0xFA]
  | .unmappedFB => [0xFB]
  | .unmappedFC => [0xFC]
  | .unmappedFF => [0xFF]

/-- The opcode byte of an instruction. -/
def Instr.opcode (i : Instr) : Byte := (encode i).headD 0

/-- The length of an instruction in bytes (R76). -/
def Instr.length (i : Instr) : Nat := (formOf i.opcode).length

/-- Byte `k` of a number whose bit 0 is the least significant bit of the first byte. -/
def tableByte (nbits w k : Nat) : Byte := BitVec.ofNat 8 ((w % 2 ^ nbits) / 2 ^ (8 * k))

/-- What the decoder reads from an instruction whose bits are `w`, numbered as spec/opcode_table.json numbers them; the
bits above `nbits` are 0. -/
def decodeTableWord (nbits w : Nat) : Option Instr :=
  match decode [tableByte nbits w 0, tableByte nbits w 1, tableByte nbits w 2] with
  | .ok (i, _) => some i
  | .error _ => none

end Sys2Proof
end

