-- ==== Sys2Proof/Config.lean ====
section
/-! DEFINITION. What one machine fixes (spec/00_scope.md R6) and the free values: the results the spec does not state. -/

namespace Sys2Proof.Machine

/-- What a call asks of a device (spec/20_memory.md R40): `read(offset)`, or `write(offset, v)`. -/
inductive DeviceAction where
  | read
  | write (v : Byte)
  deriving DecidableEq, Repr

/-- One call of a peripheral (spec/00_scope.md R5, spec/20_memory.md R40): `dev.read(offset)` or `dev.write(offset, v)`. -/
structure DeviceCall where
  /-- Which peripheral: the number of its `DeviceKind.peripheral`. -/
  device : Nat
  /-- The address minus the device's base. -/
  offset : Nat
  action : DeviceAction
  deriving DecidableEq, Repr

end Sys2Proof.Machine

namespace Sys2Proof.Config

open Sys2Proof.Machine

/-- STACK_BASE of R6: the stack page starts here (spec/45_stack.md R190). -/
def stackBase : Word := 0x0100#16

/-- NMI_VECTOR of R6: where the low byte of the NMI handler's address is (spec/60_exceptions.md R251). -/
def nmiVector : Word := 0xFFFA#16

/-- RESET_VECTOR of R6 (spec/60_exceptions.md R251, spec/70_reset_and_hazards.md R270). -/
def resetVector : Word := 0xFFFC#16

/-- IRQ_VECTOR of R6 (spec/60_exceptions.md R251). -/
def irqVector : Word := 0xFFFE#16

/-- How many byte slots the address space has (spec/10_state.md R21). -/
def addressSpace : Nat := 65536

/-- What a byte of RAM or ROM that nothing has written reads as. DESIGN CHOICE (log 2), unsafe: spec/10_state.md R27
leaves a device's initial contents open. -/
def unwrittenByte : Byte := 0#8

/-- What an access to a slot that gives no data reads as: an unowned slot, or an owner that cannot read
(spec/20_memory.md R43). -/
def silentByte : Byte := 0#8

/-- FREE VALUE (log 4): the byte a peripheral answers to a call, a read of one of its offsets, after the calls before it,
the newest first. What a device stores and returns is its own business (spec/20_memory.md R40, R51,
spec/93_implementation_defined.md U9). Nothing constrains it. -/
opaque peripheralByte : DeviceCall → List DeviceCall → Byte

/-- FREE VALUE (log 5): whether the peripheral asserts an NMI during a call, after the calls before it (spec/20_memory.md
R40, spec/60_exceptions.md R243). -/
opaque peripheralAssertsNmi : DeviceCall → List DeviceCall → Bool

/-- FREE VALUE (log 5): whether the peripheral requests an IRQ during a call, after the calls before it
(spec/20_memory.md R40, spec/60_exceptions.md R244). -/
opaque peripheralRequestsIrq : DeviceCall → List DeviceCall → Bool

end Sys2Proof.Config
end

