-- ==== Sys2Proof/Machine/State.lean ====
section
/-! DEFINITION. The machine's state as plain data (spec/10_state.md), its reset value, and the ways a step can stop. -/

namespace Sys2Proof.Machine

/-- The seven stored flags of spec/10_state.md R13. Break2 is the constant 1 and is not stored (R15, spec/90_conflicts.md
C5): it is bit 5 of `Flags.pack`. -/
structure Flags where
  /-- Carry. -/
  c : Bool
  /-- Zero. -/
  z : Bool
  /-- InterruptDisable. -/
  i : Bool
  /-- Decimal: stored and packed, never read by the ALU. -/
  d : Bool
  /-- Break. -/
  b : Bool
  /-- Overflow. -/
  v : Bool
  /-- Negative. -/
  n : Bool
  deriving DecidableEq, Repr

/-- Why a run halted (spec/10_state.md R19, spec/60_exceptions.md R241). -/
inductive HaltReason where
  /-- None: the run has not halted. -/
  | none
  /-- Break: a BRK was executed. -/
  | breakHalt
  /-- A push wrapped SP from 0x00 to 0xFF. -/
  | stackOverflow
  /-- A pull wrapped SP from 0xFF to 0x00. -/
  | stackUnderflow
  deriving DecidableEq, Repr

/-- The two interrupts (spec/60_exceptions.md R240). -/
inductive InterruptKind where
  | nmi
  | irq
  deriving DecidableEq, Repr

/-- The device kinds (spec/20_memory.md R40, R52, R58). -/
inductive DeviceKind where
  /-- A RAM region: a read returns the last byte written there (R58). -/
  | ram
  /-- A ROM region: as RAM, but not writable unless in burn mode (R58). -/
  | rom
  /-- Any other device (display, keyboard, timer): only the contract of R40 is known. The number says which of them it
  is (log 4). -/
  | peripheral (number : Nat)
  deriving DecidableEq, Repr

/-- An installed device (spec/20_memory.md R40). -/
structure Device where
  kind : DeviceKind
  /-- base_address. -/
  base : Nat
  size : Nat
  canRead : Bool
  /-- can_write; for a ROM, whether burn mode is on (R58). -/
  canWrite : Bool
  /-- What a RAM or ROM holds, by offset: offsets strictly rising, no entry equal to `Config.unwrittenByte`. A
  peripheral's contents are not given, and its list stays empty. -/
  cells : List Host.Cell
  deriving DecidableEq, Repr

/-- The Memory Bus (spec/10_state.md R21, R22). -/
structure Bus where
  /-- The installed devices, the last installed first. The slot owner is the first that covers the address: the last
  installed one (spec/20_memory.md R42). DEDUCED (log 15). -/
  devices : List Device
  /-- The lowest address written. -/
  wmLow : Word
  /-- The highest address written. -/
  wmHigh : Word
  deriving DecidableEq, Repr

/-- What `stop_request` asks of one iteration (spec/40_execution_loop.md R97, R98). -/
inductive StopRequest where
  | keepRunning
  /-- The wall-clock deadline elapsed: tested after the iteration (R97). -/
  | deadline
  /-- The host cancels the run: tested before the iteration (R98). -/
  | cancellation
  /-- The wait for the gate exceeded its maximum (R91, R98). -/
  | gateTimeout
  deriving DecidableEq, Repr

/-- What one iteration samples from outside (spec/40_execution_loop.md R90, R103). -/
structure HostInput where
  /-- The Run-Control Gate, the breakpoint evaluator and the NOP delay together (R91, R92, R99). -/
  fetchPermit : Bool
  /-- `assert_nmi()` was called since the iteration before (spec/60_exceptions.md R243). -/
  assertNmi : Bool
  /-- `request_irq()` was called since the iteration before (spec/60_exceptions.md R244). -/
  requestIrq : Bool
  stop : StopRequest
  deriving DecidableEq, Repr

/-- How the loop was left (spec/40_execution_loop.md R96 to R98: the four ways, which the host can tell apart). -/
inductive RunExit where
  /-- B went from 0 to 1: the normal end (R96). -/
  | halted
  | deadline
  | cancelled
  | gateTimeout
  deriving DecidableEq, Repr

/-- Everything the spec gives the machine (spec/10_state.md section 1). -/
structure State where
  /-- Program counter (R10). -/
  pc : Word
  /-- Stack pointer (R11). -/
  sp : Byte
  /-- Accumulator (R12). -/
  a : Byte
  /-- Index register X (R12). -/
  x : Byte
  /-- Index register Y (R12). -/
  y : Byte
  /-- The flag register (R13). -/
  flags : Flags
  /-- `nmi_pending` (R17). -/
  nmiPending : Bool
  /-- `irq_pending` (R17). -/
  irqPending : Bool
  /-- `servicing` (R18). -/
  servicing : Bool
  /-- `halt_reason` (R19). -/
  haltReason : HaltReason
  /-- `invalid_opcode_count`, without bound (R20). -/
  invalidOpcodeCount : Nat
  /-- The Memory Bus: owners, device contents, watermark (R21, R22). -/
  bus : Bus
  /-- How the loop was left; `none` while it runs (spec/40_execution_loop.md R101, R102; log 8). -/
  exit : Option RunExit
  /-- What the coming iterations sample, one entry each; past the end of the list the fetch is permitted and nothing
  else happens (log 6). -/
  inputs : List HostInput
  /-- The calls the peripherals have had, the newest first: every byte the bus has handed to one, with its offset (R40;
  spec/00_scope.md R5). The model's own form of what a peripheral can depend on (log 4). -/
  traffic : List DeviceCall
  deriving DecidableEq, Repr

/-- The reasons a meaning could stop with a fault. No step of the machine raises one: every read and write is total
(spec/60_exceptions.md R242). -/
inductive Fault where
  /-- A device was called with an offset outside its size: raised only by the host's direct access to a device,
  `Device.readAt` and `Device.writeAt` (spec/20_memory.md R59), never through the bus. Safe. -/
  | busMisuse
  deriving DecidableEq, Repr

/-- The reasons an operation is refused. -/
inductive Refusal where
  /-- An arm of `exec` without a meaning. No arm has it. Safe. -/
  | notModelled (mnemonic : String)
  /-- `install` of a device whose range passes 65536 (spec/20_memory.md R41, spec/92_eei_decisions.md D38). Safe. -/
  | installPastTop
  /-- A loader write past 0xFFFF (spec/93_implementation_defined.md U14). Safe. -/
  | loaderPastTop
  /-- A label defined twice in its scope (spec/30_encoding.md R78). Safe. -/
  | duplicateLabel
  /-- A fixup with an unresolved or out-of-range reference (spec/30_encoding.md R81). Safe. -/
  | fixupFailed
  /-- A binary image without its header, or whose length field is not the number of its bytes (spec/30_encoding.md
  R82). Safe. -/
  | malformedImage
  /-- A binary image that passes 0xFFFF (spec/93_implementation_defined.md U14). Safe. -/
  | imagePastTop
  deriving DecidableEq, Repr

/-- A RAM region: readable and writable (spec/20_memory.md R58), with nothing written yet. -/
def Device.ram (base size : Nat) : Device :=
  { kind := .ram, base := base, size := size, canRead := true, canWrite := true, cells := [] }

/-- The flags after reset: all 0 (spec/10_state.md R26). -/
def Flags.reset : Flags :=
  { c := false, z := false, i := false, d := false, b := false, v := false, n := false }

/-- The bus before the host loads anything. DESIGN CHOICE (log 1): the DeviceMap is OPEN (spec/92_eei_decisions.md D29);
this is the map of spec/95_test_vectors.md section 2, one RAM over the whole space. The watermark is the empty range of
spec/20_memory.md R45. -/
def Bus.initial : Bus :=
  { devices := [Device.ram 0 65536], wmLow := 0xFFFF#16, wmHigh := 0x0000#16 }

/-- The machine right after reset (spec/10_state.md R26, spec/70_reset_and_hazards.md R270), on the bus `Bus.initial`. The
pc is the reset vector's word, which is 0x0000 because nothing is listed in memory (log 1, 2). -/
def State.reset : State :=
  { pc := 0x0000#16
    sp := 0xFF#8
    a := 0x00#8
    x := 0x00#8
    y := 0x00#8
    flags := Flags.reset
    nmiPending := false
    irqPending := false
    servicing := false
    haltReason := .none
    invalidOpcodeCount := 0
    bus := Bus.initial
    exit := none
    inputs := []
    traffic := [] }

end Sys2Proof.Machine
end

