-- ==== Sys2Proof/Machine/Flags.lean ====
section
/-! DEFINITION. The packed flag byte and every flag computation of the ALU. -/

namespace Sys2Proof.Machine

/-- `pack()` of spec/10_state.md R14: N V 1 B D I Z C, from bit 7 down. -/
def Flags.pack (f : Flags) : Byte :=
  BitVec.ofBool f.n ++ BitVec.ofBool f.v ++ 1#1 ++ BitVec.ofBool f.b ++
    BitVec.ofBool f.d ++ BitVec.ofBool f.i ++ BitVec.ofBool f.z ++ BitVec.ofBool f.c

/-- `unpack(b)` of spec/10_state.md R14: all seven stored flags from the byte; bit 5 is ignored. -/
def Flags.unpack (b : Byte) : Flags :=
  { c := b.getLsbD 0, z := b.getLsbD 1, i := b.getLsbD 2, d := b.getLsbD 3
    b := b.getLsbD 4, v := b.getLsbD 6, n := b.getLsbD 7 }

/-- `SetNZ(v)` of spec/42_load_store_transfer.md R130. -/
def setNZ (v : Byte) (f : Flags) : Flags :=
  { f with z := v == 0#8, n := v.getLsbD 7 }

/-- What the adder answers: the 8-bit result, bit 8 of the intermediate, and the signed overflow. -/
structure Sum where
  result : Byte
  carry : Bool
  overflow : Bool
  deriving DecidableEq, Repr

/-- `AddWithCarry(a, m)` of spec/43_arithmetic_compare.md R150, the incoming carry as an argument. The intermediate is
computed exactly; the decimal flag is not an argument. -/
def addWithCarry (a m : Byte) (c : Bool) : Sum :=
  let t := a.toNat + m.toNat + c.toNat
  let r : Byte := BitVec.ofNat 8 t
  { result := r
    carry := decide (256 ≤ t)
    overflow := (a.getLsbD 7 == m.getLsbD 7) && (r.getLsbD 7 != a.getLsbD 7) }

/-- The flags after an addition: C and V from the adder (R150), Z and N from the result (R151). -/
def addFlags (t : Sum) (f : Flags) : Flags :=
  setNZ t.result { f with c := t.carry, v := t.overflow }

/-- `m ^ 0xFF`, the operand SBC gives the adder (spec/43_arithmetic_compare.md R152). -/
def onesComplement (m : Byte) : Byte := m ^^^ 0xFF#8

/-- `Compare(r, m)` of spec/43_arithmetic_compare.md R153: unsigned; N is bit 7 of the operand, and 0 when equal. -/
def compareFlags (r m : Byte) (f : Flags) : Flags :=
  if r = m then { f with z := true, c := true, n := false }
  else if r.toNat < m.toNat then { f with z := false, c := false, n := m.getLsbD 7 }
  else { f with z := false, c := true, n := m.getLsbD 7 }

/-- The flags of BIT (spec/44_logic_shift_bit.md R173): V and N from the operand alone, Z from the operand and A. -/
def bitFlags (a m : Byte) (f : Flags) : Flags :=
  { f with v := m.getLsbD 6, n := m.getLsbD 7, z := (m &&& a) == 0#8 }

/-- The four shifts of spec/44_logic_shift_bit.md. -/
inductive ShiftKind where
  | asl
  | lsr
  | rol
  | ror
  deriving DecidableEq, Repr

/-- The result `r` of `Shift(kind, m)` (spec/44_logic_shift_bit.md R174), the old carry as an argument. -/
def shiftResult (k : ShiftKind) (m : Byte) (c : Bool) : Byte :=
  match k with
  | .asl => m <<< 1
  | .lsr => m >>> 1
  | .rol => (m <<< 1) ||| (BitVec.ofBool c).setWidth 8
  | .ror => (m >>> 1) ||| ((BitVec.ofBool c).setWidth 8 <<< 7)

/-- The bit shifted out, `c_out` of R174, taken from the operand before the shift. -/
def shiftOut (k : ShiftKind) (m : Byte) : Bool :=
  match k with
  | .asl | .rol => m.getLsbD 7
  | .lsr | .ror => m.getLsbD 0

/-- The flags after a shift (R174): C is the bit shifted out, Z and N come from the result. -/
def shiftFlags (k : ShiftKind) (m : Byte) (f : Flags) : Flags :=
  setNZ (shiftResult k m f.c) { f with c := shiftOut k m }

end Sys2Proof.Machine
end

