-- ==== Sys2Proof/Machine/Ops.lean ====
section
/-! DEFINITION. The named operations over registers, devices and the bus; the stack; taking an interrupt and returning
from one. -/

namespace Sys2Proof.Machine

/-! ### Register writes -/

def State.setPc (s : State) (v : Word) : State := { s with pc := v }
def State.setSp (s : State) (v : Byte) : State := { s with sp := v }
def State.setA (s : State) (v : Byte) : State := { s with a := v }
def State.setX (s : State) (v : Byte) : State := { s with x := v }
def State.setY (s : State) (v : Byte) : State := { s with y := v }
def State.setFlags (s : State) (f : Flags) : State := { s with flags := f }
def State.setNmiPending (s : State) (v : Bool) : State := { s with nmiPending := v }
def State.setIrqPending (s : State) (v : Bool) : State := { s with irqPending := v }
def State.setServicing (s : State) (v : Bool) : State := { s with servicing := v }
def State.setHaltReason (s : State) (r : HaltReason) : State := { s with haltReason := r }
def State.setInvalidOpcodeCount (s : State) (n : Nat) : State := { s with invalidOpcodeCount := n }
def State.setBus (s : State) (b : Bus) : State := { s with bus := b }
def State.setExit (s : State) (e : Option RunExit) : State := { s with exit := e }
def State.setInputs (s : State) (l : List HostInput) : State := { s with inputs := l }
def State.setTraffic (s : State) (l : List DeviceCall) : State := { s with traffic := l }

/-! ### The storage of one device: a list of offset and byte in canonical form -/

/-- The byte at an offset; an offset that is not listed holds `Config.unwrittenByte`. -/
def Memory.read : List Host.Cell → Nat → Byte
  | [], _ => Config.unwrittenByte
  | (k, v) :: rest, off => if k = off then v else Memory.read rest off

/-- Write a byte at an offset, keeping the canonical form: writing the unwritten value takes the entry away. -/
def Memory.write : List Host.Cell → Nat → Byte → List Host.Cell
  | [], off, v => if v = Config.unwrittenByte then [] else [(off, v)]
  | (k, w) :: rest, off, v =>
    if off < k then
      if v = Config.unwrittenByte then (k, w) :: rest else (off, v) :: (k, w) :: rest
    else if off = k then
      if v = Config.unwrittenByte then rest else (off, v) :: rest
    else (k, w) :: Memory.write rest off v

/-- The canonical form from offset `lo` on: offsets strictly rising, each below `size`, no unwritten value listed. -/
def Memory.wfFrom (size lo : Nat) : List Host.Cell → Bool
  | [] => true
  | (k, v) :: rest =>
    decide (lo ≤ k) && decide (k < size) && (v != Config.unwrittenByte) && Memory.wfFrom size (k + 1) rest

/-- The canonical form of a storage of `size` bytes. -/
def Memory.wf (size : Nat) (m : List Host.Cell) : Bool := Memory.wfFrom size 0 m

/-! ### Devices and routing (spec/20_memory.md) -/

/-- Whether an address is in the device's declared range (R41). -/
def Device.covers (d : Device) (a : Nat) : Bool := decide (d.base ≤ a) && decide (a < d.base + d.size)

/-- Whether the device's accesses are known: a RAM or a ROM (R58). -/
def Device.isStorage (d : Device) : Bool :=
  match d.kind with
  | .ram | .rom => true
  | .peripheral _ => false

/-- `dev.read(offset)` of a RAM or a ROM (R58). -/
def Device.load (d : Device) (off : Nat) : Byte := Memory.read d.cells off

/-- The device after `dev.write(offset, v)`: a RAM, or a ROM in burn mode, holds the byte (R58), and a device that cannot
write keeps its bytes (R44). What a write makes of a peripheral is in the calls it has had, `State.traffic`. -/
def Device.store (d : Device) (off : Nat) (v : Byte) : Device :=
  if d.canWrite && d.isStorage then { d with cells := Memory.write d.cells off v } else d

/-- A device in its canonical form: inside the address space (R41), its bytes inside its size. -/
def Device.wf (d : Device) : Bool :=
  decide (d.base + d.size ≤ Config.addressSpace) && Memory.wf d.size d.cells

/-- The owner of a slot among the devices, the last installed first (R42). -/
def ownerIn : List Device → Nat → Option Device
  | [], _ => none
  | d :: rest, a => if d.covers a then some d else ownerIn rest a

/-- The devices after the owner of the slot has taken a write, the address relativized to its base (R44). -/
def storeIn : List Device → Nat → Byte → List Device
  | [], _, _ => []
  | d :: rest, a, v => if d.covers a then d.store (a - d.base) v :: rest else d :: storeIn rest a v

/-- Every device is in canonical form. -/
def Bus.wf (b : Bus) : Bool := b.devices.all Device.wf

/-- The owner of a slot, `owner[a]` of spec/10_state.md R21. -/
def Bus.owner (b : Bus) (a : Word) : Option Device := ownerIn b.devices a.toNat

/-- What a slot gives a reader that leaves no trace: 0 from an unowned slot or an owner that cannot read (R43), otherwise the
byte its storage holds. -/
def Bus.peek (b : Bus) (a : Word) : Byte :=
  match b.owner a with
  | none => Config.silentByte
  | some d => if d.canRead then d.load (a.toNat - d.base) else Config.silentByte

/-- Whether an access to the slot reaches no peripheral. -/
def Bus.plainAt (b : Bus) (a : Word) : Bool :=
  match b.owner a with
  | none => true
  | some d => d.isStorage

/-- `Bus.peek` of a state's bus. -/
def State.peek (s : State) (a : Word) : Byte := s.bus.peek a

/-- `Bus.plainAt` of a state's bus. -/
def State.plainAt (s : State) (a : Word) : Bool := s.bus.plainAt a

/-- A call reaches a peripheral: the device may assert an NMI or request an IRQ (R40, R51; spec/60_exceptions.md R243,
R244), which are free values, and what it answers from now on may depend on the call (log 4, 5). -/
def touchPeripheral (c : DeviceCall) (s : State) : State :=
  ((s.setNmiPending (s.nmiPending || Config.peripheralAssertsNmi c s.traffic)).setIrqPending
    (s.irqPending || Config.peripheralRequestsIrq c s.traffic)).setTraffic (c :: s.traffic)

/-- `dev.read(offset)` (R40, R58): the byte, and the state after. -/
def Device.read (d : Device) (off : Nat) (s : State) : Byte × State :=
  match d.kind with
  | .ram | .rom => (d.load off, s)
  | .peripheral n =>
    let c : DeviceCall := { device := n, offset := off, action := .read }
    (Config.peripheralByte c s.traffic, touchPeripheral c s)

/-- What `dev.write(offset, v)` does outside the device's own storage (R40): a peripheral has the call. -/
def Device.handed (d : Device) (off : Nat) (v : Byte) (s : State) : State :=
  match d.kind with
  | .ram | .rom => s
  | .peripheral n => touchPeripheral { device := n, offset := off, action := .write v } s

/-- `BusRead(a)` of R43: the byte, and the state after the access. -/
def busRead (a : Word) (s : State) : Byte × State :=
  match s.bus.owner a with
  | none => (Config.silentByte, s)
  | some d =>
    if d.canRead then d.read (a.toNat - d.base) s else (Config.silentByte, s)

/-- The watermark and the owner's storage after a write (R44, R45). -/
def Bus.write (b : Bus) (a : Word) (v : Byte) : Bus :=
  { devices := storeIn b.devices a.toNat v
    wmLow := if a.toNat ≤ b.wmLow.toNat then a else b.wmLow
    wmHigh := if b.wmHigh.toNat ≤ a.toNat then a else b.wmHigh }

/-- `BusWrite(a, v)` of R44: the watermark moves whoever owns the slot; the write reaches the owner if it can write. -/
def busWrite (a : Word) (v : Byte) (s : State) : State :=
  match s.bus.owner a with
  | none => s.setBus (s.bus.write a v)
  | some d =>
    if d.canWrite then d.handed (a.toNat - d.base) v (s.setBus (s.bus.write a v)) else s.setBus (s.bus.write a v)

/-- `MemRead(a, 2)` of R46, R47: low byte at `a` first, then the high byte at `a + 1` modulo 65536. -/
def readWord (a : Word) (s : State) : Word × State :=
  let lo := busRead a s
  let hi := busRead (a + 1#16) lo.2
  (wordOf hi.1 lo.1, hi.2)

/-- `MemWrite(a, 2, w)` of R46, R47. -/
def writeWord (a w : Word) (s : State) : State :=
  busWrite (a + 1#16) (highByte w) (busWrite a (lowByte w) s)

/-! ### Fetching from the instruction stream -/

/-- `Fetch8()` of spec/41_addressing_modes.md R110, and the opcode fetch of spec/40_execution_loop.md R94. -/
def fetch8 (s : State) : Byte × State :=
  let r := busRead s.pc s
  (r.1, r.2.setPc (s.pc + 1#16))

/-- `Fetch16()` of spec/41_addressing_modes.md R110. -/
def fetch16 (s : State) : Word × State :=
  let lo := fetch8 s
  let hi := fetch8 lo.2
  (wordOf hi.1 lo.1, hi.2)

/-! ### Halts and the stack (spec/45_stack.md) -/

/-- Set B and record a cause; the first cause of a run stays (R193; spec/47_flags_nop_brk_rti.md R228). -/
def halt (r : HaltReason) (s : State) : State :=
  (s.setFlags { s.flags with b := true }).setHaltReason (if s.haltReason = .none then r else s.haltReason)

/-- The address SP designates (spec/10_state.md R11). -/
def stackAddr (sp : Byte) : Word := Config.stackBase + zext16 sp

/-- `Push(v)` of R191: the write is made, then SP goes down; the wrap from 0x00 is fatal. -/
def push (v : Byte) (s : State) : State :=
  let t := busWrite (stackAddr s.sp) v s
  if s.sp = 0x00#8 then halt .stackOverflow (t.setSp 0xFF#8) else t.setSp (s.sp - 1#8)

/-- Whether a pull in this state underflows (R192). -/
def pullUnderflows (s : State) : Bool := s.sp == 0xFF#8

/-- SP goes up before the read of a pull; the wrap from 0xFF is fatal (R192). -/
def pullStep (s : State) : State :=
  if pullUnderflows s then halt .stackUnderflow (s.setSp 0x00#8) else s.setSp (s.sp + 1#8)

/-- `Pull()` of R192: the byte, and the state after; the read is made even after an underflow. -/
def pull (s : State) : Byte × State :=
  let t := pullStep s
  busRead (stackAddr t.sp) t

/-- The PC is pushed high byte first, then low byte (R198). -/
def pushWord (w : Word) (s : State) : State := push (lowByte w) (push (highByte w) s)

/-- The PC is pulled low byte first, then high byte (R198). -/
def pullWord (s : State) : Word × State :=
  let lo := pull s
  let hi := pull lo.2
  (wordOf hi.1 lo.1, hi.2)

/-- Pull a byte and load all seven flags from it; if that pull underflowed, B is set again (R197 and
spec/47_flags_nop_brk_rti.md R229; spec/90_conflicts.md C8). -/
def pullFlags (s : State) : State :=
  let r := pull s
  let f := Flags.unpack r.1
  r.2.setFlags { f with b := f.b || pullUnderflows s }

/-! ### Taking an interrupt and returning from one (spec/60_exceptions.md) -/

/-- The vector of an interrupt (R251). -/
def vectorOf : InterruptKind → Word
  | .nmi => Config.nmiVector
  | .irq => Config.irqVector

/-- The interrupt to take at an instruction boundary, if any (R245, R248, R249): NMI before IRQ; neither while `servicing`;
the IRQ only when I is 0. -/
def interruptToTake (s : State) : Option InterruptKind :=
  if s.nmiPending && !s.servicing then some .nmi
  else if s.irqPending && !s.servicing && !s.flags.i then some .irq
  else none

/-- The pushes of an entry: PC high, PC low, the packed flags (R246, R247, R198). -/
def pushContext (s : State) : State :=
  let t := pushWord s.pc s
  push t.flags.pack t

/-- An entry clears its own pending flag, and the IRQ entry sets I after the push (R246, R247). -/
def maskAtEntry (k : InterruptKind) (s : State) : State :=
  match k with
  | .nmi => s
  | .irq => s.setFlags { s.flags with i := true }

def clearPending (k : InterruptKind) (s : State) : State :=
  match k with
  | .nmi => s.setNmiPending false
  | .irq => s.setIrqPending false

/-- `InterruptEntry(kind)` of R246 and R247: push PC and P; for an IRQ set I; load PC from the vector; set `servicing`;
clear the pending flag. -/
def interruptEntry (k : InterruptKind) (s : State) : State :=
  let v := readWord (vectorOf k) (maskAtEntry k (pushContext s))
  clearPending k ((v.2.setPc v.1).setServicing true)

/-- The return of RTI (R250; spec/47_flags_nop_brk_rti.md R229): flags, then PC, then I is cleared whatever was pulled,
then `servicing`. -/
def returnFromInterrupt (s : State) : State :=
  let w := pullWord (pullFlags s)
  let t := w.2.setPc w.1
  (t.setFlags { t.flags with i := false }).setServicing false

end Sys2Proof.Machine
end

