-- ==== Sys2Proof/Machine/Operands.lean ====
section
/-! DEFINITION. The operand forms of spec/41_addressing_modes.md and how an instruction uses them (R124). -/

namespace Sys2Proof.Machine

/-- An operand in memory, with the operand bytes its mode took from the instruction stream. -/
inductive MemOperand where
  | zp (ll : Byte)
  | zpx (ll : Byte)
  | zpy (ll : Byte)
  | abs (w : Word)
  | absx (w : Word)
  | absy (w : Word)
  | ind (w : Word)
  | indx (ll : Byte)
  | indy (ll : Byte)
  deriving DecidableEq, Repr

/-- An operand that is read: a byte of the instruction, or a byte of memory. -/
inductive Operand where
  | imm (v : Byte)
  | mem (m : MemOperand)
  deriving DecidableEq, Repr

/-- Where an operand that is modified stands: in A, or in memory. -/
inductive Place where
  | acc
  | mem (m : MemOperand)
  deriving DecidableEq, Repr

/-- The effective address of a memory operand, and the state after the pointer reads of the mode (R114 to R122). The
zero-page sums wrap inside the page; a pointer's high byte is read at the next address of the whole space. -/
def effAddr (m : MemOperand) (s : State) : Word × State :=
  match m with
  | .zp ll => (zext16 ll, s)
  | .zpx ll => (zext16 (ll + s.x), s)
  | .zpy ll => (zext16 (ll + s.y), s)
  | .abs w => (w, s)
  | .absx w => (w + zext16 s.x, s)
  | .absy w => (w + zext16 s.y, s)
  | .ind w => readWord w s
  | .indx ll => readWord (zext16 (ll + s.x)) s
  | .indy ll =>
    let r := readWord (zext16 ll) s
    (r.1 + zext16 s.y, r.2)

/-- The read operand of R124: the immediate byte, or one read at the effective address. -/
def readOperand (o : Operand) (s : State) : Byte × State :=
  match o with
  | .imm v => (v, s)
  | .mem m =>
    let ea := effAddr m s
    busRead ea.1 ea.2

/-- The write operand of R124: one write at the effective address, no read there. -/
def writeOperand (m : MemOperand) (v : Byte) (s : State) : State :=
  let ea := effAddr m s
  busWrite ea.1 v ea.2

/-- The modify operand of R124: in A no bus access; in memory one read, then one write of the result at the same address.
The result and the flags are functions of the byte and of the flags before. -/
def modifyOperand (p : Place) (result : Byte → Flags → Byte) (flags : Byte → Flags → Flags) (s : State) : State :=
  match p with
  | .acc => (s.setA (result s.a s.flags)).setFlags (flags s.a s.flags)
  | .mem m =>
    let ea := effAddr m s
    let r := busRead ea.1 ea.2
    (busWrite ea.1 (result r.1 r.2.flags) r.2).setFlags (flags r.1 r.2.flags)

/-- Write a byte to a register and set Z and N from it: `r <- v; SetNZ(v)` (spec/42_load_store_transfer.md R130). -/
def putNZ (put : State → Byte → State) (v : Byte) (s : State) : State :=
  (put s v).setFlags (setNZ v s.flags)

/-- The target of a relative branch (R123): PC after the operand, plus the displacement, modulo 65536. -/
def branchTarget (off : Int) (s : State) : Word := s.pc + wordOfInt off

end Sys2Proof.Machine
end

