-- ==== Sys2Proof/Machine/Arithmetic.lean ====
section
/-! DEFINITION. Addition, subtraction, comparison, increment and decrement (spec/43_arithmetic_compare.md). -/

namespace Sys2Proof.Machine

/-- ADC (R151). -/
def adc (o : Operand) (s : State) : State :=
  let r := readOperand o s
  let t := addWithCarry r.2.a r.1 r.2.flags.c
  (r.2.setA t.result).setFlags (addFlags t r.2.flags)

/-- SBC (R152): the adder on the one's complement of the operand (spec/90_conflicts.md C2). -/
def sbc (o : Operand) (s : State) : State :=
  let r := readOperand o s
  let t := addWithCarry r.2.a (onesComplement r.1) r.2.flags.c
  (r.2.setA t.result).setFlags (addFlags t r.2.flags)

/-- CMP (R154). -/
def cmpA (o : Operand) (s : State) : State :=
  let r := readOperand o s
  r.2.setFlags (compareFlags r.2.a r.1 r.2.flags)

/-- CPX (R155). -/
def cpx (o : Operand) (s : State) : State :=
  let r := readOperand o s
  r.2.setFlags (compareFlags r.2.x r.1 r.2.flags)

/-- CPY (R156). -/
def cpy (o : Operand) (s : State) : State :=
  let r := readOperand o s
  r.2.setFlags (compareFlags r.2.y r.1 r.2.flags)

/-- INC (R157). -/
def incMem (m : MemOperand) (s : State) : State :=
  modifyOperand (.mem m) (fun v _ => v + 1#8) (fun v f => setNZ (v + 1#8) f) s

/-- DEC (R158). -/
def decMem (m : MemOperand) (s : State) : State :=
  modifyOperand (.mem m) (fun v _ => v - 1#8) (fun v f => setNZ (v - 1#8) f) s

/-- INX (R159). -/
def inx (s : State) : State := putNZ State.setX (s.x + 1#8) s

/-- INY (R160). -/
def iny (s : State) : State := putNZ State.setY (s.y + 1#8) s

/-- DEX (R161). -/
def dex (s : State) : State := putNZ State.setX (s.x - 1#8) s

/-- DEY (R162). -/
def dey (s : State) : State := putNZ State.setY (s.y - 1#8) s

/-- ADC (zp,X) (61): R151, R121. -/
def execAdcIndx (ll : Byte) (s : State) : Host.Outcome State Fault Refusal := .next (adc (.mem (.indx ll)) s)

/-- ADC zero-page (65): R151, R114. -/
def execAdcZp (ll : Byte) (s : State) : Host.Outcome State Fault Refusal := .next (adc (.mem (.zp ll)) s)

/-- ADC immediate (69): R151, R113. -/
def execAdcImm (v : Byte) (s : State) : Host.Outcome State Fault Refusal := .next (adc (.imm v) s)

/-- ADC absolute (6D): R151, R117. -/
def execAdcAbs (w : Word) (s : State) : Host.Outcome State Fault Refusal := .next (adc (.mem (.abs w)) s)

/-- ADC (zp),Y (71): R151, R122. -/
def execAdcIndy (ll : Byte) (s : State) : Host.Outcome State Fault Refusal := .next (adc (.mem (.indy ll)) s)

/-- ADC zero-page,X (75): R151, R115. -/
def execAdcZpx (ll : Byte) (s : State) : Host.Outcome State Fault Refusal := .next (adc (.mem (.zpx ll)) s)

/-- ADC absolute,Y (79): R151, R119. -/
def execAdcAbsy (w : Word) (s : State) : Host.Outcome State Fault Refusal := .next (adc (.mem (.absy w)) s)

/-- ADC absolute,X (7D): R151, R118. -/
def execAdcAbsx (w : Word) (s : State) : Host.Outcome State Fault Refusal := .next (adc (.mem (.absx w)) s)

/-- SBC (zp,X) (E1): R152, R121. -/
def execSbcIndx (ll : Byte) (s : State) : Host.Outcome State Fault Refusal := .next (sbc (.mem (.indx ll)) s)

/-- SBC zero-page (E5): R152, R114. -/
def execSbcZp (ll : Byte) (s : State) : Host.Outcome State Fault Refusal := .next (sbc (.mem (.zp ll)) s)

/-- SBC immediate (E9): R152, R113. -/
def execSbcImm (v : Byte) (s : State) : Host.Outcome State Fault Refusal := .next (sbc (.imm v) s)

/-- SBC absolute (ED): R152, R117. -/
def execSbcAbs (w : Word) (s : State) : Host.Outcome State Fault Refusal := .next (sbc (.mem (.abs w)) s)

/-- SBC (zp),Y (F1): R152, R122. -/
def execSbcIndy (ll : Byte) (s : State) : Host.Outcome State Fault Refusal := .next (sbc (.mem (.indy ll)) s)

/-- SBC zero-page,X (F5): R152, R115. -/
def execSbcZpx (ll : Byte) (s : State) : Host.Outcome State Fault Refusal := .next (sbc (.mem (.zpx ll)) s)

/-- SBC absolute,Y (F9): R152, R119. -/
def execSbcAbsy (w : Word) (s : State) : Host.Outcome State Fault Refusal := .next (sbc (.mem (.absy w)) s)

/-- SBC absolute,X (FD): R152, R118. -/
def execSbcAbsx (w : Word) (s : State) : Host.Outcome State Fault Refusal := .next (sbc (.mem (.absx w)) s)

/-- CMP (zp,X) (C1): R154, R121. -/
def execCmpIndx (ll : Byte) (s : State) : Host.Outcome State Fault Refusal := .next (cmpA (.mem (.indx ll)) s)

/-- CMP zero-page (C5): R154, R114. -/
def execCmpZp (ll : Byte) (s : State) : Host.Outcome State Fault Refusal := .next (cmpA (.mem (.zp ll)) s)

/-- CMP immediate (C9): R154, R113. -/
def execCmpImm (v : Byte) (s : State) : Host.Outcome State Fault Refusal := .next (cmpA (.imm v) s)

/-- CMP absolute (CD): R154, R117. -/
def execCmpAbs (w : Word) (s : State) : Host.Outcome State Fault Refusal := .next (cmpA (.mem (.abs w)) s)

/-- CMP (zp),Y (D1): R154, R122. -/
def execCmpIndy (ll : Byte) (s : State) : Host.Outcome State Fault Refusal := .next (cmpA (.mem (.indy ll)) s)

/-- CMP zero-page,X (D5): R154, R115. -/
def execCmpZpx (ll : Byte) (s : State) : Host.Outcome State Fault Refusal := .next (cmpA (.mem (.zpx ll)) s)

/-- CMP absolute,Y (D9): R154, R119. -/
def execCmpAbsy (w : Word) (s : State) : Host.Outcome State Fault Refusal := .next (cmpA (.mem (.absy w)) s)

/-- CMP absolute,X (DD): R154, R118. -/
def execCmpAbsx (w : Word) (s : State) : Host.Outcome State Fault Refusal := .next (cmpA (.mem (.absx w)) s)

/-- CPX immediate (E0): R155, R113. -/
def execCpxImm (v : Byte) (s : State) : Host.Outcome State Fault Refusal := .next (cpx (.imm v) s)

/-- CPX zero-page (E4): R155, R114. -/
def execCpxZp (ll : Byte) (s : State) : Host.Outcome State Fault Refusal := .next (cpx (.mem (.zp ll)) s)

/-- CPX absolute (EC): R155, R117. -/
def execCpxAbs (w : Word) (s : State) : Host.Outcome State Fault Refusal := .next (cpx (.mem (.abs w)) s)

/-- CPY immediate (C0): R156, R113. -/
def execCpyImm (v : Byte) (s : State) : Host.Outcome State Fault Refusal := .next (cpy (.imm v) s)

/-- CPY zero-page (C4): R156, R114. -/
def execCpyZp (ll : Byte) (s : State) : Host.Outcome State Fault Refusal := .next (cpy (.mem (.zp ll)) s)

/-- CPY absolute (CC): R156, R117. -/
def execCpyAbs (w : Word) (s : State) : Host.Outcome State Fault Refusal := .next (cpy (.mem (.abs w)) s)

/-- INC zero-page (E6): R157, R114. -/
def execIncZp (ll : Byte) (s : State) : Host.Outcome State Fault Refusal := .next (incMem (.zp ll) s)

/-- INC absolute (EE): R157, R117. -/
def execIncAbs (w : Word) (s : State) : Host.Outcome State Fault Refusal := .next (incMem (.abs w) s)

/-- INC zero-page,X (F6): R157, R115. -/
def execIncZpx (ll : Byte) (s : State) : Host.Outcome State Fault Refusal := .next (incMem (.zpx ll) s)

/-- INC absolute,X (FE): R157, R118. -/
def execIncAbsx (w : Word) (s : State) : Host.Outcome State Fault Refusal := .next (incMem (.absx w) s)

/-- DEC zero-page (C6): R158, R114. -/
def execDecZp (ll : Byte) (s : State) : Host.Outcome State Fault Refusal := .next (decMem (.zp ll) s)

/-- DEC absolute (CE): R158, R117. -/
def execDecAbs (w : Word) (s : State) : Host.Outcome State Fault Refusal := .next (decMem (.abs w) s)

/-- DEC zero-page,X (D6): R158, R115. -/
def execDecZpx (ll : Byte) (s : State) : Host.Outcome State Fault Refusal := .next (decMem (.zpx ll) s)

/-- DEC absolute,X (DE): R158, R118. -/
def execDecAbsx (w : Word) (s : State) : Host.Outcome State Fault Refusal := .next (decMem (.absx w) s)

/-- INX implied (E8): R159. -/
def execInx (s : State) : Host.Outcome State Fault Refusal := .next (inx s)

/-- INY implied (C8): R160. -/
def execIny (s : State) : Host.Outcome State Fault Refusal := .next (iny s)

/-- DEX implied (CA): R161. -/
def execDex (s : State) : Host.Outcome State Fault Refusal := .next (dex s)

/-- DEY implied (88): R162. -/
def execDey (s : State) : Host.Outcome State Fault Refusal := .next (dey s)

end Sys2Proof.Machine
end

