-- ==== Sys2Proof/Machine/Control.lean ====
section
/-! DEFINITION. Branches, jumps, call and return (spec/46_control_flow.md). -/

namespace Sys2Proof.Machine

/-- `Branch(cond)` (R200): the displacement has been consumed, so PC is the next instruction. -/
def branch (cond : Bool) (off : Int) (s : State) : State :=
  if cond then s.setPc (branchTarget off s) else s

/-- BPL (R201). -/
def bpl (off : Int) (s : State) : State := branch (!s.flags.n) off s

/-- BMI (R202). -/
def bmi (off : Int) (s : State) : State := branch s.flags.n off s

/-- BVC (R203). -/
def bvc (off : Int) (s : State) : State := branch (!s.flags.v) off s

/-- BVS (R204). -/
def bvs (off : Int) (s : State) : State := branch s.flags.v off s

/-- BCC (R205). -/
def bcc (off : Int) (s : State) : State := branch (!s.flags.c) off s

/-- BCS (R206). -/
def bcs (off : Int) (s : State) : State := branch s.flags.c off s

/-- BNE (R207). -/
def branchNe (off : Int) (s : State) : State := branch (!s.flags.z) off s

/-- BEQ (R208). -/
def beq (off : Int) (s : State) : State := branch s.flags.z off s

/-- JMP (R209): the effective address is the target. -/
def jmp (m : MemOperand) (s : State) : State := let ea := effAddr m s; ea.2.setPc ea.1

/-- JSR (R210): pushes the address of its own last byte, high byte first. -/
def jsr (w : Word) (s : State) : State := (pushWord (s.pc - 1#16) s).setPc w

/-- RTS (R211). -/
def rts (s : State) : State := let r := pullWord s; r.2.setPc (r.1 + 1#16)

/-- BPL relative (10): R201, R123. -/
def execBpl (off : Int) (s : State) : Host.Outcome State Fault Refusal := .next (bpl off s)

/-- BMI relative (30): R202, R123. -/
def execBmi (off : Int) (s : State) : Host.Outcome State Fault Refusal := .next (bmi off s)

/-- BVC relative (50): R203, R123. -/
def execBvc (off : Int) (s : State) : Host.Outcome State Fault Refusal := .next (bvc off s)

/-- BVS relative (70): R204, R123. -/
def execBvs (off : Int) (s : State) : Host.Outcome State Fault Refusal := .next (bvs off s)

/-- BCC relative (90): R205, R123. -/
def execBcc (off : Int) (s : State) : Host.Outcome State Fault Refusal := .next (bcc off s)

/-- BCS relative (B0): R206, R123. -/
def execBcs (off : Int) (s : State) : Host.Outcome State Fault Refusal := .next (bcs off s)

/-- BNE relative (D0): R207, R123. -/
def execBne (off : Int) (s : State) : Host.Outcome State Fault Refusal := .next (branchNe off s)

/-- BEQ relative (F0): R208, R123. -/
def execBeq (off : Int) (s : State) : Host.Outcome State Fault Refusal := .next (beq off s)

/-- JMP absolute (4C): R209, R117. -/
def execJmpAbs (w : Word) (s : State) : Host.Outcome State Fault Refusal := .next (jmp (.abs w) s)

/-- JMP indirect (6C): R209, R120. -/
def execJmpInd (w : Word) (s : State) : Host.Outcome State Fault Refusal := .next (jmp (.ind w) s)

/-- JSR absolute (20): R210, R117. -/
def execJsr (w : Word) (s : State) : Host.Outcome State Fault Refusal := .next (jsr w s)

/-- RTS implied (60): R211. -/
def execRts (s : State) : Host.Outcome State Fault Refusal := .next (rts s)

end Sys2Proof.Machine
end

