-- ==== Sys2Proof/Machine/FlagOps.lean ====
section
/-! DEFINITION. Flag instructions, NOP, BRK and RTI (spec/47_flags_nop_brk_rti.md). -/

namespace Sys2Proof.Machine

/-- CLC (R220). -/
def clc (s : State) : State := s.setFlags { s.flags with c := false }

/-- SEC (R221). -/
def sec (s : State) : State := s.setFlags { s.flags with c := true }

/-- CLI (R222). -/
def cli (s : State) : State := s.setFlags { s.flags with i := false }

/-- SEI (R223). -/
def sei (s : State) : State := s.setFlags { s.flags with i := true }

/-- CLD (R224). -/
def cld (s : State) : State := s.setFlags { s.flags with d := false }

/-- SED (R225). -/
def sed (s : State) : State := s.setFlags { s.flags with d := true }

/-- CLV (R226). -/
def clv (s : State) : State := s.setFlags { s.flags with v := false }

/-- NOP (R227): nothing but the fetch's advance of PC; its wall-clock delay is seen as iterations whose fetch is denied
(spec/40_execution_loop.md R92; log 11). -/
def nop (s : State) : State := s

/-- BRK (R228): B and the halt reason, nothing else; the loop ends at step 5 of the iteration. -/
def brk (s : State) : State := halt .breakHalt s

/-- RTI (R229). -/
def rti (s : State) : State := returnFromInterrupt s

/-- CLC implied (18): R220. -/
def execClc (s : State) : Host.Outcome State Fault Refusal := .next (clc s)

/-- SEC implied (38): R221. -/
def execSec (s : State) : Host.Outcome State Fault Refusal := .next (sec s)

/-- CLI implied (58): R222. -/
def execCli (s : State) : Host.Outcome State Fault Refusal := .next (cli s)

/-- SEI implied (78): R223. -/
def execSei (s : State) : Host.Outcome State Fault Refusal := .next (sei s)

/-- CLD implied (D8): R224. -/
def execCld (s : State) : Host.Outcome State Fault Refusal := .next (cld s)

/-- SED implied (F8): R225. -/
def execSed (s : State) : Host.Outcome State Fault Refusal := .next (sed s)

/-- CLV implied (B8): R226. -/
def execClv (s : State) : Host.Outcome State Fault Refusal := .next (clv s)

/-- NOP implied (EA): R227. -/
def execNop (s : State) : Host.Outcome State Fault Refusal := .next (nop s)

/-- BRK implied (00): R228. -/
def execBrk (s : State) : Host.Outcome State Fault Refusal := .next (brk s)

/-- RTI implied (40): R229. -/
def execRti (s : State) : Host.Outcome State Fault Refusal := .next (rti s)

end Sys2Proof.Machine
end

