-- ==== Sys2Proof/Machine/LoadStore.lean ====
section
/-! DEFINITION. Loads, stores and transfers (spec/42_load_store_transfer.md). -/

namespace Sys2Proof.Machine

/-- LDA (R131). -/
def lda (o : Operand) (s : State) : State := let r := readOperand o s; putNZ State.setA r.1 r.2

/-- LDX (R132). -/
def ldx (o : Operand) (s : State) : State := let r := readOperand o s; putNZ State.setX r.1 r.2

/-- LDY (R133). -/
def ldy (o : Operand) (s : State) : State := let r := readOperand o s; putNZ State.setY r.1 r.2

/-- STA (R134): no flag is written. -/
def sta (m : MemOperand) (s : State) : State := writeOperand m s.a s

/-- STX (R135). -/
def stx (m : MemOperand) (s : State) : State := writeOperand m s.x s

/-- STY (R136). -/
def sty (m : MemOperand) (s : State) : State := writeOperand m s.y s

/-- TAX (R137). -/
def tax (s : State) : State := putNZ State.setX s.a s

/-- TAY (R138). -/
def tay (s : State) : State := putNZ State.setY s.a s

/-- TXA (R139). -/
def txa (s : State) : State := putNZ State.setA s.x s

/-- TYA (R140). -/
def tya (s : State) : State := putNZ State.setA s.y s

/-- TSX (R141). -/
def tsx (s : State) : State := putNZ State.setX s.sp s

/-- TXS (R142): Z and N are written here too; no overflow or underflow test. -/
def txs (s : State) : State := putNZ State.setSp s.x s

/-- LDA (zp,X) (A1): R131, R121. -/
def execLdaIndx (ll : Byte) (s : State) : Host.Outcome State Fault Refusal := .next (lda (.mem (.indx ll)) s)

/-- LDA zero-page (A5): R131, R114. -/
def execLdaZp (ll : Byte) (s : State) : Host.Outcome State Fault Refusal := .next (lda (.mem (.zp ll)) s)

/-- LDA immediate (A9): R131, R113. -/
def execLdaImm (v : Byte) (s : State) : Host.Outcome State Fault Refusal := .next (lda (.imm v) s)

/-- LDA absolute (AD): R131, R117. -/
def execLdaAbs (w : Word) (s : State) : Host.Outcome State Fault Refusal := .next (lda (.mem (.abs w)) s)

/-- LDA (zp),Y (B1): R131, R122. -/
def execLdaIndy (ll : Byte) (s : State) : Host.Outcome State Fault Refusal := .next (lda (.mem (.indy ll)) s)

/-- LDA zero-page,X (B5): R131, R115. -/
def execLdaZpx (ll : Byte) (s : State) : Host.Outcome State Fault Refusal := .next (lda (.mem (.zpx ll)) s)

/-- LDA absolute,Y (B9): R131, R119. -/
def execLdaAbsy (w : Word) (s : State) : Host.Outcome State Fault Refusal := .next (lda (.mem (.absy w)) s)

/-- LDA absolute,X (BD): R131, R118. -/
def execLdaAbsx (w : Word) (s : State) : Host.Outcome State Fault Refusal := .next (lda (.mem (.absx w)) s)

/-- LDX immediate (A2): R132, R113. -/
def execLdxImm (v : Byte) (s : State) : Host.Outcome State Fault Refusal := .next (ldx (.imm v) s)

/-- LDX zero-page (A6): R132, R114. -/
def execLdxZp (ll : Byte) (s : State) : Host.Outcome State Fault Refusal := .next (ldx (.mem (.zp ll)) s)

/-- LDX absolute (AE): R132, R117. -/
def execLdxAbs (w : Word) (s : State) : Host.Outcome State Fault Refusal := .next (ldx (.mem (.abs w)) s)

/-- LDX zero-page,Y (B6): R132, R116. -/
def execLdxZpy (ll : Byte) (s : State) : Host.Outcome State Fault Refusal := .next (ldx (.mem (.zpy ll)) s)

/-- LDX absolute,Y (BE): R132, R119. -/
def execLdxAbsy (w : Word) (s : State) : Host.Outcome State Fault Refusal := .next (ldx (.mem (.absy w)) s)

/-- LDY immediate (A0): R133, R113. -/
def execLdyImm (v : Byte) (s : State) : Host.Outcome State Fault Refusal := .next (ldy (.imm v) s)

/-- LDY zero-page (A4): R133, R114. -/
def execLdyZp (ll : Byte) (s : State) : Host.Outcome State Fault Refusal := .next (ldy (.mem (.zp ll)) s)

/-- LDY absolute (AC): R133, R117. -/
def execLdyAbs (w : Word) (s : State) : Host.Outcome State Fault Refusal := .next (ldy (.mem (.abs w)) s)

/-- LDY zero-page,X (B4): R133, R115. -/
def execLdyZpx (ll : Byte) (s : State) : Host.Outcome State Fault Refusal := .next (ldy (.mem (.zpx ll)) s)

/-- LDY absolute,X (BC): R133, R118. -/
def execLdyAbsx (w : Word) (s : State) : Host.Outcome State Fault Refusal := .next (ldy (.mem (.absx w)) s)

/-- STA (zp,X) (81): R134, R121. -/
def execStaIndx (ll : Byte) (s : State) : Host.Outcome State Fault Refusal := .next (sta (.indx ll) s)

/-- STA zero-page (85): R134, R114. -/
def execStaZp (ll : Byte) (s : State) : Host.Outcome State Fault Refusal := .next (sta (.zp ll) s)

/-- STA absolute (8D): R134, R117. -/
def execStaAbs (w : Word) (s : State) : Host.Outcome State Fault Refusal := .next (sta (.abs w) s)

/-- STA (zp),Y (91): R134, R122. -/
def execStaIndy (ll : Byte) (s : State) : Host.Outcome State Fault Refusal := .next (sta (.indy ll) s)

/-- STA zero-page,X (95): R134, R115. -/
def execStaZpx (ll : Byte) (s : State) : Host.Outcome State Fault Refusal := .next (sta (.zpx ll) s)

/-- STA absolute,Y (99): R134, R119. -/
def execStaAbsy (w : Word) (s : State) : Host.Outcome State Fault Refusal := .next (sta (.absy w) s)

/-- STA absolute,X (9D): R134, R118. -/
def execStaAbsx (w : Word) (s : State) : Host.Outcome State Fault Refusal := .next (sta (.absx w) s)

/-- STX zero-page (86): R135, R114. -/
def execStxZp (ll : Byte) (s : State) : Host.Outcome State Fault Refusal := .next (stx (.zp ll) s)

/-- STX absolute (8E): R135, R117. -/
def execStxAbs (w : Word) (s : State) : Host.Outcome State Fault Refusal := .next (stx (.abs w) s)

/-- STX zero-page,Y (96): R135, R116. -/
def execStxZpy (ll : Byte) (s : State) : Host.Outcome State Fault Refusal := .next (stx (.zpy ll) s)

/-- STY zero-page (84): R136, R114. -/
def execStyZp (ll : Byte) (s : State) : Host.Outcome State Fault Refusal := .next (sty (.zp ll) s)

/-- STY absolute (8C): R136, R117. -/
def execStyAbs (w : Word) (s : State) : Host.Outcome State Fault Refusal := .next (sty (.abs w) s)

/-- STY zero-page,X (94): R136, R115. -/
def execStyZpx (ll : Byte) (s : State) : Host.Outcome State Fault Refusal := .next (sty (.zpx ll) s)

/-- TAX implied (AA): R137. -/
def execTax (s : State) : Host.Outcome State Fault Refusal := .next (tax s)

/-- TAY implied (A8): R138. -/
def execTay (s : State) : Host.Outcome State Fault Refusal := .next (tay s)

/-- TXA implied (8A): R139. -/
def execTxa (s : State) : Host.Outcome State Fault Refusal := .next (txa s)

/-- TYA implied (98): R140. -/
def execTya (s : State) : Host.Outcome State Fault Refusal := .next (tya s)

/-- TSX implied (BA): R141. -/
def execTsx (s : State) : Host.Outcome State Fault Refusal := .next (tsx s)

/-- TXS implied (9A): R142. -/
def execTxs (s : State) : Host.Outcome State Fault Refusal := .next (txs s)

end Sys2Proof.Machine
end

