-- ==== Sys2Proof/Machine/Logic.lean ====
section
/-! DEFINITION. Logic, bit test, shifts and rotates (spec/44_logic_shift_bit.md). -/

namespace Sys2Proof.Machine

/-- AND (R170). -/
def andA (o : Operand) (s : State) : State := let r := readOperand o s; putNZ State.setA (r.2.a &&& r.1) r.2

/-- ORA (R171). -/
def oraA (o : Operand) (s : State) : State := let r := readOperand o s; putNZ State.setA (r.2.a ||| r.1) r.2

/-- EOR (R172). -/
def eorA (o : Operand) (s : State) : State := let r := readOperand o s; putNZ State.setA (r.2.a ^^^ r.1) r.2

/-- BIT (R173): A is not written. -/
def bitTest (m : MemOperand) (s : State) : State :=
  let r := readOperand (.mem m) s
  r.2.setFlags (bitFlags r.2.a r.1 r.2.flags)

/-- ASL, LSR, ROL, ROR (R174 to R178) on A or on a byte of memory. -/
def shift (k : ShiftKind) (p : Place) (s : State) : State :=
  modifyOperand p (fun v f => shiftResult k v f.c) (shiftFlags k) s

/-- AND (zp,X) (21): R170, R121. -/
def execAndIndx (ll : Byte) (s : State) : Host.Outcome State Fault Refusal := .next (andA (.mem (.indx ll)) s)

/-- AND zero-page (25): R170, R114. -/
def execAndZp (ll : Byte) (s : State) : Host.Outcome State Fault Refusal := .next (andA (.mem (.zp ll)) s)

/-- AND immediate (29): R170, R113. -/
def execAndImm (v : Byte) (s : State) : Host.Outcome State Fault Refusal := .next (andA (.imm v) s)

/-- AND absolute (2D): R170, R117. -/
def execAndAbs (w : Word) (s : State) : Host.Outcome State Fault Refusal := .next (andA (.mem (.abs w)) s)

/-- AND (zp),Y (31): R170, R122. -/
def execAndIndy (ll : Byte) (s : State) : Host.Outcome State Fault Refusal := .next (andA (.mem (.indy ll)) s)

/-- AND zero-page,X (35): R170, R115. -/
def execAndZpx (ll : Byte) (s : State) : Host.Outcome State Fault Refusal := .next (andA (.mem (.zpx ll)) s)

/-- AND absolute,Y (39): R170, R119. -/
def execAndAbsy (w : Word) (s : State) : Host.Outcome State Fault Refusal := .next (andA (.mem (.absy w)) s)

/-- AND absolute,X (3D): R170, R118. -/
def execAndAbsx (w : Word) (s : State) : Host.Outcome State Fault Refusal := .next (andA (.mem (.absx w)) s)

/-- ORA (zp,X) (01): R171, R121. -/
def execOraIndx (ll : Byte) (s : State) : Host.Outcome State Fault Refusal := .next (oraA (.mem (.indx ll)) s)

/-- ORA zero-page (05): R171, R114. -/
def execOraZp (ll : Byte) (s : State) : Host.Outcome State Fault Refusal := .next (oraA (.mem (.zp ll)) s)

/-- ORA immediate (09): R171, R113. -/
def execOraImm (v : Byte) (s : State) : Host.Outcome State Fault Refusal := .next (oraA (.imm v) s)

/-- ORA absolute (0D): R171, R117. -/
def execOraAbs (w : Word) (s : State) : Host.Outcome State Fault Refusal := .next (oraA (.mem (.abs w)) s)

/-- ORA (zp),Y (11): R171, R122. -/
def execOraIndy (ll : Byte) (s : State) : Host.Outcome State Fault Refusal := .next (oraA (.mem (.indy ll)) s)

/-- ORA zero-page,X (15): R171, R115. -/
def execOraZpx (ll : Byte) (s : State) : Host.Outcome State Fault Refusal := .next (oraA (.mem (.zpx ll)) s)

/-- ORA absolute,Y (19): R171, R119. -/
def execOraAbsy (w : Word) (s : State) : Host.Outcome State Fault Refusal := .next (oraA (.mem (.absy w)) s)

/-- ORA absolute,X (1D): R171, R118. -/
def execOraAbsx (w : Word) (s : State) : Host.Outcome State Fault Refusal := .next (oraA (.mem (.absx w)) s)

/-- EOR (zp,X) (41): R172, R121. -/
def execEorIndx (ll : Byte) (s : State) : Host.Outcome State Fault Refusal := .next (eorA (.mem (.indx ll)) s)

/-- EOR zero-page (45): R172, R114. -/
def execEorZp (ll : Byte) (s : State) : Host.Outcome State Fault Refusal := .next (eorA (.mem (.zp ll)) s)

/-- EOR immediate (49): R172, R113. -/
def execEorImm (v : Byte) (s : State) : Host.Outcome State Fault Refusal := .next (eorA (.imm v) s)

/-- EOR absolute (4D): R172, R117. -/
def execEorAbs (w : Word) (s : State) : Host.Outcome State Fault Refusal := .next (eorA (.mem (.abs w)) s)

/-- EOR (zp),Y (51): R172, R122. -/
def execEorIndy (ll : Byte) (s : State) : Host.Outcome State Fault Refusal := .next (eorA (.mem (.indy ll)) s)

/-- EOR zero-page,X (55): R172, R115. -/
def execEorZpx (ll : Byte) (s : State) : Host.Outcome State Fault Refusal := .next (eorA (.mem (.zpx ll)) s)

/-- EOR absolute,Y (59): R172, R119. -/
def execEorAbsy (w : Word) (s : State) : Host.Outcome State Fault Refusal := .next (eorA (.mem (.absy w)) s)

/-- EOR absolute,X (5D): R172, R118. -/
def execEorAbsx (w : Word) (s : State) : Host.Outcome State Fault Refusal := .next (eorA (.mem (.absx w)) s)

/-- BIT zero-page (24): R173, R114. -/
def execBitZp (ll : Byte) (s : State) : Host.Outcome State Fault Refusal := .next (bitTest (.zp ll) s)

/-- BIT absolute (2C): R173, R117. -/
def execBitAbs (w : Word) (s : State) : Host.Outcome State Fault Refusal := .next (bitTest (.abs w) s)

/-- ASL zero-page (06): R175, R114. -/
def execAslZp (ll : Byte) (s : State) : Host.Outcome State Fault Refusal := .next (shift .asl (.mem (.zp ll)) s)

/-- ASL accumulator (0A): R175, R112. -/
def execAslAcc (s : State) : Host.Outcome State Fault Refusal := .next (shift .asl .acc s)

/-- ASL absolute (0E): R175, R117. -/
def execAslAbs (w : Word) (s : State) : Host.Outcome State Fault Refusal := .next (shift .asl (.mem (.abs w)) s)

/-- ASL zero-page,X (16): R175, R115. -/
def execAslZpx (ll : Byte) (s : State) : Host.Outcome State Fault Refusal := .next (shift .asl (.mem (.zpx ll)) s)

/-- ASL absolute,X (1E): R175, R118. -/
def execAslAbsx (w : Word) (s : State) : Host.Outcome State Fault Refusal := .next (shift .asl (.mem (.absx w)) s)

/-- LSR zero-page (46): R176, R114. -/
def execLsrZp (ll : Byte) (s : State) : Host.Outcome State Fault Refusal := .next (shift .lsr (.mem (.zp ll)) s)

/-- LSR accumulator (4A): R176, R112. -/
def execLsrAcc (s : State) : Host.Outcome State Fault Refusal := .next (shift .lsr .acc s)

/-- LSR absolute (4E): R176, R117. -/
def execLsrAbs (w : Word) (s : State) : Host.Outcome State Fault Refusal := .next (shift .lsr (.mem (.abs w)) s)

/-- LSR zero-page,X (56): R176, R115. -/
def execLsrZpx (ll : Byte) (s : State) : Host.Outcome State Fault Refusal := .next (shift .lsr (.mem (.zpx ll)) s)

/-- LSR absolute,X (5E): R176, R118. -/
def execLsrAbsx (w : Word) (s : State) : Host.Outcome State Fault Refusal := .next (shift .lsr (.mem (.absx w)) s)

/-- ROL zero-page (26): R177, R114. -/
def execRolZp (ll : Byte) (s : State) : Host.Outcome State Fault Refusal := .next (shift .rol (.mem (.zp ll)) s)

/-- ROL accumulator (2A): R177, R112. -/
def execRolAcc (s : State) : Host.Outcome State Fault Refusal := .next (shift .rol .acc s)

/-- ROL absolute (2E): R177, R117. -/
def execRolAbs (w : Word) (s : State) : Host.Outcome State Fault Refusal := .next (shift .rol (.mem (.abs w)) s)

/-- ROL zero-page,X (36): R177, R115. -/
def execRolZpx (ll : Byte) (s : State) : Host.Outcome State Fault Refusal := .next (shift .rol (.mem (.zpx ll)) s)

/-- ROL absolute,X (3E): R177, R118. -/
def execRolAbsx (w : Word) (s : State) : Host.Outcome State Fault Refusal := .next (shift .rol (.mem (.absx w)) s)

/-- ROR zero-page (66): R178, R114. -/
def execRorZp (ll : Byte) (s : State) : Host.Outcome State Fault Refusal := .next (shift .ror (.mem (.zp ll)) s)

/-- ROR accumulator (6A): R178, R112. -/
def execRorAcc (s : State) : Host.Outcome State Fault Refusal := .next (shift .ror .acc s)

/-- ROR absolute (6E): R178, R117. -/
def execRorAbs (w : Word) (s : State) : Host.Outcome State Fault Refusal := .next (shift .ror (.mem (.abs w)) s)

/-- ROR zero-page,X (76): R178, R115. -/
def execRorZpx (ll : Byte) (s : State) : Host.Outcome State Fault Refusal := .next (shift .ror (.mem (.zpx ll)) s)

/-- ROR absolute,X (7E): R178, R118. -/
def execRorAbsx (w : Word) (s : State) : Host.Outcome State Fault Refusal := .next (shift .ror (.mem (.absx w)) s)

end Sys2Proof.Machine
end

