-- ==== Sys2Proof/Machine/Stack.lean ====
section
/-! DEFINITION. The stack instructions (spec/45_stack.md). -/

namespace Sys2Proof.Machine

/-- PHA (R194). -/
def pha (s : State) : State := push s.a s

/-- PLA (R195). -/
def pla (s : State) : State := let r := pull s; putNZ State.setA r.1 r.2

/-- PHP (R196): the packed byte as it stands. -/
def php (s : State) : State := push s.flags.pack s

/-- PLP (R197). -/
def plp (s : State) : State := pullFlags s

/-- PHA implied (48): R194. -/
def execPha (s : State) : Host.Outcome State Fault Refusal := .next (pha s)

/-- PLA implied (68): R195. -/
def execPla (s : State) : Host.Outcome State Fault Refusal := .next (pla s)

/-- PHP implied (08): R196. -/
def execPhp (s : State) : Host.Outcome State Fault Refusal := .next (php s)

/-- PLP implied (28): R197. -/
def execPlp (s : State) : Host.Outcome State Fault Refusal := .next (plp s)

end Sys2Proof.Machine
end

