-- ==== Sys2Proof/Machine/Unmapped.lean ====
section
/-! DEFINITION. The 105 unmapped opcode bytes (spec/30_encoding.md R75, spec/47_flags_nop_brk_rti.md R230). -/

namespace Sys2Proof.Machine

/-- An unmapped opcode is counted and otherwise does nothing (R230; spec/90_conflicts.md C1). -/
def countInvalid (s : State) : State := s.setInvalidOpcodeCount (s.invalidOpcodeCount + 1)

/-- unmapped_0x02 implied (02): R230. -/
def execUnmapped02 (s : State) : Host.Outcome State Fault Refusal := .next (countInvalid s)

/-- unmapped_0x03 implied (03): R230. -/
def execUnmapped03 (s : State) : Host.Outcome State Fault Refusal := .next (countInvalid s)

/-- unmapped_0x04 implied (04): R230. -/
def execUnmapped04 (s : State) : Host.Outcome State Fault Refusal := .next (countInvalid s)

/-- unmapped_0x07 implied (07): R230. -/
def execUnmapped07 (s : State) : Host.Outcome State Fault Refusal := .next (countInvalid s)

/-- unmapped_0x0B implied (0B): R230. -/
def execUnmapped0B (s : State) : Host.Outcome State Fault Refusal := .next (countInvalid s)

/-- unmapped_0x0C implied (0C): R230. -/
def execUnmapped0C (s : State) : Host.Outcome State Fault Refusal := .next (countInvalid s)

/-- unmapped_0x0F implied (0F): R230. -/
def execUnmapped0F (s : State) : Host.Outcome State Fault Refusal := .next (countInvalid s)

/-- unmapped_0x12 implied (12): R230. -/
def execUnmapped12 (s : State) : Host.Outcome State Fault Refusal := .next (countInvalid s)

/-- unmapped_0x13 implied (13): R230. -/
def execUnmapped13 (s : State) : Host.Outcome State Fault Refusal := .next (countInvalid s)

/-- unmapped_0x14 implied (14): R230. -/
def execUnmapped14 (s : State) : Host.Outcome State Fault Refusal := .next (countInvalid s)

/-- unmapped_0x17 implied (17): R230. -/
def execUnmapped17 (s : State) : Host.Outcome State Fault Refusal := .next (countInvalid s)

/-- unmapped_0x1A implied (1A): R230. -/
def execUnmapped1A (s : State) : Host.Outcome State Fault Refusal := .next (countInvalid s)

/-- unmapped_0x1B implied (1B): R230. -/
def execUnmapped1B (s : State) : Host.Outcome State Fault Refusal := .next (countInvalid s)

/-- unmapped_0x1C implied (1C): R230. -/
def execUnmapped1C (s : State) : Host.Outcome State Fault Refusal := .next (countInvalid s)

/-- unmapped_0x1F implied (1F): R230. -/
def execUnmapped1F (s : State) : Host.Outcome State Fault Refusal := .next (countInvalid s)

/-- unmapped_0x22 implied (22): R230. -/
def execUnmapped22 (s : State) : Host.Outcome State Fault Refusal := .next (countInvalid s)

/-- unmapped_0x23 implied (23): R230. -/
def execUnmapped23 (s : State) : Host.Outcome State Fault Refusal := .next (countInvalid s)

/-- unmapped_0x27 implied (27): R230. -/
def execUnmapped27 (s : State) : Host.Outcome State Fault Refusal := .next (countInvalid s)

/-- unmapped_0x2B implied (2B): R230. -/
def execUnmapped2B (s : State) : Host.Outcome State Fault Refusal := .next (countInvalid s)

/-- unmapped_0x2F implied (2F): R230. -/
def execUnmapped2F (s : State) : Host.Outcome State Fault Refusal := .next (countInvalid s)

/-- unmapped_0x32 implied (32): R230. -/
def execUnmapped32 (s : State) : Host.Outcome State Fault Refusal := .next (countInvalid s)

/-- unmapped_0x33 implied (33): R230. -/
def execUnmapped33 (s : State) : Host.Outcome State Fault Refusal := .next (countInvalid s)

/-- unmapped_0x34 implied (34): R230. -/
def execUnmapped34 (s : State) : Host.Outcome State Fault Refusal := .next (countInvalid s)

/-- unmapped_0x37 implied (37): R230. -/
def execUnmapped37 (s : State) : Host.Outcome State Fault Refusal := .next (countInvalid s)

/-- unmapped_0x3A implied (3A): R230. -/
def execUnmapped3A (s : State) : Host.Outcome State Fault Refusal := .next (countInvalid s)

/-- unmapped_0x3B implied (3B): R230. -/
def execUnmapped3B (s : State) : Host.Outcome State Fault Refusal := .next (countInvalid s)

/-- unmapped_0x3C implied (3C): R230. -/
def execUnmapped3C (s : State) : Host.Outcome State Fault Refusal := .next (countInvalid s)

/-- unmapped_0x3F implied (3F): R230. -/
def execUnmapped3F (s : State) : Host.Outcome State Fault Refusal := .next (countInvalid s)

/-- unmapped_0x42 implied (42): R230. -/
def execUnmapped42 (s : State) : Host.Outcome State Fault Refusal := .next (countInvalid s)

/-- unmapped_0x43 implied (43): R230. -/
def execUnmapped43 (s : State) : Host.Outcome State Fault Refusal := .next (countInvalid s)

/-- unmapped_0x44 implied (44): R230. -/
def execUnmapped44 (s : State) : Host.Outcome State Fault Refusal := .next (countInvalid s)

/-- unmapped_0x47 implied (47): R230. -/
def execUnmapped47 (s : State) : Host.Outcome State Fault Refusal := .next (countInvalid s)

/-- unmapped_0x4B implied (4B): R230. -/
def execUnmapped4B (s : State) : Host.Outcome State Fault Refusal := .next (countInvalid s)

/-- unmapped_0x4F implied (4F): R230. -/
def execUnmapped4F (s : State) : Host.Outcome State Fault Refusal := .next (countInvalid s)

/-- unmapped_0x52 implied (52): R230. -/
def execUnmapped52 (s : State) : Host.Outcome State Fault Refusal := .next (countInvalid s)

/-- unmapped_0x53 implied (53): R230. -/
def execUnmapped53 (s : State) : Host.Outcome State Fault Refusal := .next (countInvalid s)

/-- unmapped_0x54 implied (54): R230. -/
def execUnmapped54 (s : State) : Host.Outcome State Fault Refusal := .next (countInvalid s)

/-- unmapped_0x57 implied (57): R230. -/
def execUnmapped57 (s : State) : Host.Outcome State Fault Refusal := .next (countInvalid s)

/-- unmapped_0x5A implied (5A): R230. -/
def execUnmapped5A (s : State) : Host.Outcome State Fault Refusal := .next (countInvalid s)

/-- unmapped_0x5B implied (5B): R230. -/
def execUnmapped5B (s : State) : Host.Outcome State Fault Refusal := .next (countInvalid s)

/-- unmapped_0x5C implied (5C): R230. -/
def execUnmapped5C (s : State) : Host.Outcome State Fault Refusal := .next (countInvalid s)

/-- unmapped_0x5F implied (5F): R230. -/
def execUnmapped5F (s : State) : Host.Outcome State Fault Refusal := .next (countInvalid s)

/-- unmapped_0x62 implied (62): R230. -/
def execUnmapped62 (s : State) : Host.Outcome State Fault Refusal := .next (countInvalid s)

/-- unmapped_0x63 implied (63): R230. -/
def execUnmapped63 (s : State) : Host.Outcome State Fault Refusal := .next (countInvalid s)

/-- unmapped_0x64 implied (64): R230. -/
def execUnmapped64 (s : State) : Host.Outcome State Fault Refusal := .next (countInvalid s)

/-- unmapped_0x67 implied (67): R230. -/
def execUnmapped67 (s : State) : Host.Outcome State Fault Refusal := .next (countInvalid s)

/-- unmapped_0x6B implied (6B): R230. -/
def execUnmapped6B (s : State) : Host.Outcome State Fault Refusal := .next (countInvalid s)

/-- unmapped_0x6F implied (6F): R230. -/
def execUnmapped6F (s : State) : Host.Outcome State Fault Refusal := .next (countInvalid s)

/-- unmapped_0x72 implied (72): R230. -/
def execUnmapped72 (s : State) : Host.Outcome State Fault Refusal := .next (countInvalid s)

/-- unmapped_0x73 implied (73): R230. -/
def execUnmapped73 (s : State) : Host.Outcome State Fault Refusal := .next (countInvalid s)

/-- unmapped_0x74 implied (74): R230. -/
def execUnmapped74 (s : State) : Host.Outcome State Fault Refusal := .next (countInvalid s)

/-- unmapped_0x77 implied (77): R230. -/
def execUnmapped77 (s : State) : Host.Outcome State Fault Refusal := .next (countInvalid s)

/-- unmapped_0x7A implied (7A): R230. -/
def execUnmapped7A (s : State) : Host.Outcome State Fault Refusal := .next (countInvalid s)

/-- unmapped_0x7B implied (7B): R230. -/
def execUnmapped7B (s : State) : Host.Outcome State Fault Refusal := .next (countInvalid s)

/-- unmapped_0x7C implied (7C): R230. -/
def execUnmapped7C (s : State) : Host.Outcome State Fault Refusal := .next (countInvalid s)

/-- unmapped_0x7F implied (7F): R230. -/
def execUnmapped7F (s : State) : Host.Outcome State Fault Refusal := .next (countInvalid s)

/-- unmapped_0x80 implied (80): R230. -/
def execUnmapped80 (s : State) : Host.Outcome State Fault Refusal := .next (countInvalid s)

/-- unmapped_0x82 implied (82): R230. -/
def execUnmapped82 (s : State) : Host.Outcome State Fault Refusal := .next (countInvalid s)

/-- unmapped_0x83 implied (83): R230. -/
def execUnmapped83 (s : State) : Host.Outcome State Fault Refusal := .next (countInvalid s)

/-- unmapped_0x87 implied (87): R230. -/
def execUnmapped87 (s : State) : Host.Outcome State Fault Refusal := .next (countInvalid s)

/-- unmapped_0x89 implied (89): R230. -/
def execUnmapped89 (s : State) : Host.Outcome State Fault Refusal := .next (countInvalid s)

/-- unmapped_0x8B implied (8B): R230. -/
def execUnmapped8B (s : State) : Host.Outcome State Fault Refusal := .next (countInvalid s)

/-- unmapped_0x8F implied (8F): R230. -/
def execUnmapped8F (s : State) : Host.Outcome State Fault Refusal := .next (countInvalid s)

/-- unmapped_0x92 implied (92): R230. -/
def execUnmapped92 (s : State) : Host.Outcome State Fault Refusal := .next (countInvalid s)

/-- unmapped_0x93 implied (93): R230. -/
def execUnmapped93 (s : State) : Host.Outcome State Fault Refusal := .next (countInvalid s)

/-- unmapped_0x97 implied (97): R230. -/
def execUnmapped97 (s : State) : Host.Outcome State Fault Refusal := .next (countInvalid s)

/-- unmapped_0x9B implied (9B): R230. -/
def execUnmapped9B (s : State) : Host.Outcome State Fault Refusal := .next (countInvalid s)

/-- unmapped_0x9C implied (9C): R230. -/
def execUnmapped9C (s : State) : Host.Outcome State Fault Refusal := .next (countInvalid s)

/-- unmapped_0x9E implied (9E): R230. -/
def execUnmapped9E (s : State) : Host.Outcome State Fault Refusal := .next (countInvalid s)

/-- unmapped_0x9F implied (9F): R230. -/
def execUnmapped9F (s : State) : Host.Outcome State Fault Refusal := .next (countInvalid s)

/-- unmapped_0xA3 implied (A3): R230. -/
def execUnmappedA3 (s : State) : Host.Outcome State Fault Refusal := .next (countInvalid s)

/-- unmapped_0xA7 implied (A7): R230. -/
def execUnmappedA7 (s : State) : Host.Outcome State Fault Refusal := .next (countInvalid s)

/-- unmapped_0xAB implied (AB): R230. -/
def execUnmappedAB (s : State) : Host.Outcome State Fault Refusal := .next (countInvalid s)

/-- unmapped_0xAF implied (AF): R230. -/
def execUnmappedAF (s : State) : Host.Outcome State Fault Refusal := .next (countInvalid s)

/-- unmapped_0xB2 implied (B2): R230. -/
def execUnmappedB2 (s : State) : Host.Outcome State Fault Refusal := .next (countInvalid s)

/-- unmapped_0xB3 implied (B3): R230. -/
def execUnmappedB3 (s : State) : Host.Outcome State Fault Refusal := .next (countInvalid s)

/-- unmapped_0xB7 implied (B7): R230. -/
def execUnmappedB7 (s : State) : Host.Outcome State Fault Refusal := .next (countInvalid s)

/-- unmapped_0xBB implied (BB): R230. -/
def execUnmappedBB (s : State) : Host.Outcome State Fault Refusal := .next (countInvalid s)

/-- unmapped_0xBF implied (BF): R230. -/
def execUnmappedBF (s : State) : Host.Outcome State Fault Refusal := .next (countInvalid s)

/-- unmapped_0xC2 implied (C2): R230. -/
def execUnmappedC2 (s : State) : Host.Outcome State Fault Refusal := .next (countInvalid s)

/-- unmapped_0xC3 implied (C3): R230. -/
def execUnmappedC3 (s : State) : Host.Outcome State Fault Refusal := .next (countInvalid s)

/-- unmapped_0xC7 implied (C7): R230. -/
def execUnmappedC7 (s : State) : Host.Outcome State Fault Refusal := .next (countInvalid s)

/-- unmapped_0xCB implied (CB): R230. -/
def execUnmappedCB (s : State) : Host.Outcome State Fault Refusal := .next (countInvalid s)

/-- unmapped_0xCF implied (CF): R230. -/
def execUnmappedCF (s : State) : Host.Outcome State Fault Refusal := .next (countInvalid s)

/-- unmapped_0xD2 implied (D2): R230. -/
def execUnmappedD2 (s : State) : Host.Outcome State Fault Refusal := .next (countInvalid s)

/-- unmapped_0xD3 implied (D3): R230. -/
def execUnmappedD3 (s : State) : Host.Outcome State Fault Refusal := .next (countInvalid s)

/-- unmapped_0xD4 implied (D4): R230. -/
def execUnmappedD4 (s : State) : Host.Outcome State Fault Refusal := .next (countInvalid s)

/-- unmapped_0xD7 implied (D7): R230. -/
def execUnmappedD7 (s : State) : Host.Outcome State Fault Refusal := .next (countInvalid s)

/-- unmapped_0xDA implied (DA): R230. -/
def execUnmappedDA (s : State) : Host.Outcome State Fault Refusal := .next (countInvalid s)

/-- unmapped_0xDB implied (DB): R230. -/
def execUnmappedDB (s : State) : Host.Outcome State Fault Refusal := .next (countInvalid s)

/-- unmapped_0xDC implied (DC): R230. -/
def execUnmappedDC (s : State) : Host.Outcome State Fault Refusal := .next (countInvalid s)

/-- unmapped_0xDF implied (DF): R230. -/
def execUnmappedDF (s : State) : Host.Outcome State Fault Refusal := .next (countInvalid s)

/-- unmapped_0xE2 implied (E2): R230. -/
def execUnmappedE2 (s : State) : Host.Outcome State Fault Refusal := .next (countInvalid s)

/-- unmapped_0xE3 implied (E3): R230. -/
def execUnmappedE3 (s : State) : Host.Outcome State Fault Refusal := .next (countInvalid s)

/-- unmapped_0xE7 implied (E7): R230. -/
def execUnmappedE7 (s : State) : Host.Outcome State Fault Refusal := .next (countInvalid s)

/-- unmapped_0xEB implied (EB): R230. -/
def execUnmappedEB (s : State) : Host.Outcome State Fault Refusal := .next (countInvalid s)

/-- unmapped_0xEF implied (EF): R230. -/
def execUnmappedEF (s : State) : Host.Outcome State Fault Refusal := .next (countInvalid s)

/-- unmapped_0xF2 implied (F2): R230. -/
def execUnmappedF2 (s : State) : Host.Outcome State Fault Refusal := .next (countInvalid s)

/-- unmapped_0xF3 implied (F3): R230. -/
def execUnmappedF3 (s : State) : Host.Outcome State Fault Refusal := .next (countInvalid s)

/-- unmapped_0xF4 implied (F4): R230. -/
def execUnmappedF4 (s : State) : Host.Outcome State Fault Refusal := .next (countInvalid s)

/-- unmapped_0xF7 implied (F7): R230. -/
def execUnmappedF7 (s : State) : Host.Outcome State Fault Refusal := .next (countInvalid s)

/-- unmapped_0xFA implied (FA): R230. -/
def execUnmappedFA (s : State) : Host.Outcome State Fault Refusal := .next (countInvalid s)

/-- unmapped_0xFB implied (FB): R230. -/
def execUnmappedFB (s : State) : Host.Outcome State Fault Refusal := .next (countInvalid s)

/-- unmapped_0xFC implied (FC): R230. -/
def execUnmappedFC (s : State) : Host.Outcome State Fault Refusal := .next (countInvalid s)

/-- unmapped_0xFF implied (FF): R230. -/
def execUnmappedFF (s : State) : Host.Outcome State Fault Refusal := .next (countInvalid s)

end Sys2Proof.Machine
end

