-- ==== Sys2Proof/Machine/Dispatch.lean ====
section
/-! DEFINITION. The one match over the instructions: one meaning per constructor (spec/40_execution_loop.md R95). -/

namespace Sys2Proof.Machine

def exec (i : Instr) (s : State) : Host.Outcome State Fault Refusal :=
  match i with
  | .ldaIndx ll => Sys2Proof.Machine.execLdaIndx ll s
  | .ldaZp ll => Sys2Proof.Machine.execLdaZp ll s
  | .ldaImm v => Sys2Proof.Machine.execLdaImm v s
  | .ldaAbs w => Sys2Proof.Machine.execLdaAbs w s
  | .ldaIndy ll => Sys2Proof.Machine.execLdaIndy ll s
  | .ldaZpx ll => Sys2Proof.Machine.execLdaZpx ll s
  | .ldaAbsy w => Sys2Proof.Machine.execLdaAbsy w s
  | .ldaAbsx w => Sys2Proof.Machine.execLdaAbsx w s
  | .ldxImm v => Sys2Proof.Machine.execLdxImm v s
  | .ldxZp ll => Sys2Proof.Machine.execLdxZp ll s
  | .ldxAbs w => Sys2Proof.Machine.execLdxAbs w s
  | .ldxZpy ll => Sys2Proof.Machine.execLdxZpy ll s
  | .ldxAbsy w => Sys2Proof.Machine.execLdxAbsy w s
  | .ldyImm v => Sys2Proof.Machine.execLdyImm v s
  | .ldyZp ll => Sys2Proof.Machine.execLdyZp ll s
  | .ldyAbs w => Sys2Proof.Machine.execLdyAbs w s
  | .ldyZpx ll => Sys2Proof.Machine.execLdyZpx ll s
  | .ldyAbsx w => Sys2Proof.Machine.execLdyAbsx w s
  | .staIndx ll => Sys2Proof.Machine.execStaIndx ll s
  | .staZp ll => Sys2Proof.Machine.execStaZp ll s
  | .staAbs w => Sys2Proof.Machine.execStaAbs w s
  | .staIndy ll => Sys2Proof.Machine.execStaIndy ll s
  | .staZpx ll => Sys2Proof.Machine.execStaZpx ll s
  | .staAbsy w => Sys2Proof.Machine.execStaAbsy w s
  | .staAbsx w => Sys2Proof.Machine.execStaAbsx w s
  | .stxZp ll => Sys2Proof.Machine.execStxZp ll s
  | .stxAbs w => Sys2Proof.Machine.execStxAbs w s
  | .stxZpy ll => Sys2Proof.Machine.execStxZpy ll s
  | .styZp ll => Sys2Proof.Machine.execStyZp ll s
  | .styAbs w => Sys2Proof.Machine.execStyAbs w s
  | .styZpx ll => Sys2Proof.Machine.execStyZpx ll s
  | .tax => Sys2Proof.Machine.execTax s
  | .tay => Sys2Proof.Machine.execTay s
  | .txa => Sys2Proof.Machine.execTxa s
  | .tya => Sys2Proof.Machine.execTya s
  | .tsx => Sys2Proof.Machine.execTsx s
  | .txs => Sys2Proof.Machine.execTxs s
  | .adcIndx ll => Sys2Proof.Machine.execAdcIndx ll s
  | .adcZp ll => Sys2Proof.Machine.execAdcZp ll s
  | .adcImm v => Sys2Proof.Machine.execAdcImm v s
  | .adcAbs w => Sys2Proof.Machine.execAdcAbs w s
  | .adcIndy ll => Sys2Proof.Machine.execAdcIndy ll s
  | .adcZpx ll => Sys2Proof.Machine.execAdcZpx ll s
  | .adcAbsy w => Sys2Proof.Machine.execAdcAbsy w s
  | .adcAbsx w => Sys2Proof.Machine.execAdcAbsx w s
  | .sbcIndx ll => Sys2Proof.Machine.execSbcIndx ll s
  | .sbcZp ll => Sys2Proof.Machine.execSbcZp ll s
  | .sbcImm v => Sys2Proof.Machine.execSbcImm v s
  | .sbcAbs w => Sys2Proof.Machine.execSbcAbs w s
  | .sbcIndy ll => Sys2Proof.Machine.execSbcIndy ll s
  | .sbcZpx ll => Sys2Proof.Machine.execSbcZpx ll s
  | .sbcAbsy w => Sys2Proof.Machine.execSbcAbsy w s
  | .sbcAbsx w => Sys2Proof.Machine.execSbcAbsx w s
  | .cmpIndx ll => Sys2Proof.Machine.execCmpIndx ll s
  | .cmpZp ll => Sys2Proof.Machine.execCmpZp ll s
  | .cmpImm v => Sys2Proof.Machine.execCmpImm v s
  | .cmpAbs w => Sys2Proof.Machine.execCmpAbs w s
  | .cmpIndy ll => Sys2Proof.Machine.execCmpIndy ll s
  | .cmpZpx ll => Sys2Proof.Machine.execCmpZpx ll s
  | .cmpAbsy w => Sys2Proof.Machine.execCmpAbsy w s
  | .cmpAbsx w => Sys2Proof.Machine.execCmpAbsx w s
  | .cpxImm v => Sys2Proof.Machine.execCpxImm v s
  | .cpxZp ll => Sys2Proof.Machine.execCpxZp ll s
  | .cpxAbs w => Sys2Proof.Machine.execCpxAbs w s
  | .cpyImm v => Sys2Proof.Machine.execCpyImm v s
  | .cpyZp ll => Sys2Proof.Machine.execCpyZp ll s
  | .cpyAbs w => Sys2Proof.Machine.execCpyAbs w s
  | .incZp ll => Sys2Proof.Machine.execIncZp ll s
  | .incAbs w => Sys2Proof.Machine.execIncAbs w s
  | .incZpx ll => Sys2Proof.Machine.execIncZpx ll s
  | .incAbsx w => Sys2Proof.Machine.execIncAbsx w s
  | .decZp ll => Sys2Proof.Machine.execDecZp ll s
  | .decAbs w => Sys2Proof.Machine.execDecAbs w s
  | .decZpx ll => Sys2Proof.Machine.execDecZpx ll s
  | .decAbsx w => Sys2Proof.Machine.execDecAbsx w s
  | .inx => Sys2Proof.Machine.execInx s
  | .iny => Sys2Proof.Machine.execIny s
  | .dex => Sys2Proof.Machine.execDex s
  | .dey => Sys2Proof.Machine.execDey s
  | .andIndx ll => Sys2Proof.Machine.execAndIndx ll s
  | .andZp ll => Sys2Proof.Machine.execAndZp ll s
  | .andImm v => Sys2Proof.Machine.execAndImm v s
  | .andAbs w => Sys2Proof.Machine.execAndAbs w s
  | .andIndy ll => Sys2Proof.Machine.execAndIndy ll s
  | .andZpx ll => Sys2Proof.Machine.execAndZpx ll s
  | .andAbsy w => Sys2Proof.Machine.execAndAbsy w s
  | .andAbsx w => Sys2Proof.Machine.execAndAbsx w s
  | .oraIndx ll => Sys2Proof.Machine.execOraIndx ll s
  | .oraZp ll => Sys2Proof.Machine.execOraZp ll s
  | .oraImm v => Sys2Proof.Machine.execOraImm v s
  | .oraAbs w => Sys2Proof.Machine.execOraAbs w s
  | .oraIndy ll => Sys2Proof.Machine.execOraIndy ll s
  | .oraZpx ll => Sys2Proof.Machine.execOraZpx ll s
  | .oraAbsy w => Sys2Proof.Machine.execOraAbsy w s
  | .oraAbsx w => Sys2Proof.Machine.execOraAbsx w s
  | .eorIndx ll => Sys2Proof.Machine.execEorIndx ll s
  | .eorZp ll => Sys2Proof.Machine.execEorZp ll s
  | .eorImm v => Sys2Proof.Machine.execEorImm v s
  | .eorAbs w => Sys2Proof.Machine.execEorAbs w s
  | .eorIndy ll => Sys2Proof.Machine.execEorIndy ll s
  | .eorZpx ll => Sys2Proof.Machine.execEorZpx ll s
  | .eorAbsy w => Sys2Proof.Machine.execEorAbsy w s
  | .eorAbsx w => Sys2Proof.Machine.execEorAbsx w s
  | .bitZp ll => Sys2Proof.Machine.execBitZp ll s
  | .bitAbs w => Sys2Proof.Machine.execBitAbs w s
  | .aslZp ll => Sys2Proof.Machine.execAslZp ll s
  | .aslAcc => Sys2Proof.Machine.execAslAcc s
  | .aslAbs w => Sys2Proof.Machine.execAslAbs w s
  | .aslZpx ll => Sys2Proof.Machine.execAslZpx ll s
  | .aslAbsx w => Sys2Proof.Machine.execAslAbsx w s
  | .lsrZp ll => Sys2Proof.Machine.execLsrZp ll s
  | .lsrAcc => Sys2Proof.Machine.execLsrAcc s
  | .lsrAbs w => Sys2Proof.Machine.execLsrAbs w s
  | .lsrZpx ll => Sys2Proof.Machine.execLsrZpx ll s
  | .lsrAbsx w => Sys2Proof.Machine.execLsrAbsx w s
  | .rolZp ll => Sys2Proof.Machine.execRolZp ll s
  | .rolAcc => Sys2Proof.Machine.execRolAcc s
  | .rolAbs w => Sys2Proof.Machine.execRolAbs w s
  | .rolZpx ll => Sys2Proof.Machine.execRolZpx ll s
  | .rolAbsx w => Sys2Proof.Machine.execRolAbsx w s
  | .rorZp ll => Sys2Proof.Machine.execRorZp ll s
  | .rorAcc => Sys2Proof.Machine.execRorAcc s
  | .rorAbs w => Sys2Proof.Machine.execRorAbs w s
  | .rorZpx ll => Sys2Proof.Machine.execRorZpx ll s
  | .rorAbsx w => Sys2Proof.Machine.execRorAbsx w s
  | .pha => Sys2Proof.Machine.execPha s
  | .pla => Sys2Proof.Machine.execPla s
  | .php => Sys2Proof.Machine.execPhp s
  | .plp => Sys2Proof.Machine.execPlp s
  | .bpl off => Sys2Proof.Machine.execBpl off s
  | .bmi off => Sys2Proof.Machine.execBmi off s
  | .bvc off => Sys2Proof.Machine.execBvc off s
  | .bvs off => Sys2Proof.Machine.execBvs off s
  | .bcc off => Sys2Proof.Machine.execBcc off s
  | .bcs off => Sys2Proof.Machine.execBcs off s
  | .bne off => Sys2Proof.Machine.execBne off s
  | .beq off => Sys2Proof.Machine.execBeq off s
  | .jmpAbs w => Sys2Proof.Machine.execJmpAbs w s
  | .jmpInd w => Sys2Proof.Machine.execJmpInd w s
  | .jsr w => Sys2Proof.Machine.execJsr w s
  | .rts => Sys2Proof.Machine.execRts s
  | .clc => Sys2Proof.Machine.execClc s
  | .sec => Sys2Proof.Machine.execSec s
  | .cli => Sys2Proof.Machine.execCli s
  | .sei => Sys2Proof.Machine.execSei s
  | .cld => Sys2Proof.Machine.execCld s
  | .sed => Sys2Proof.Machine.execSed s
  | .clv => Sys2Proof.Machine.execClv s
  | .nop => Sys2Proof.Machine.execNop s
  | .brk => Sys2Proof.Machine.execBrk s
  | .rti => Sys2Proof.Machine.execRti s
  | .unmapped02 => Sys2Proof.Machine.execUnmapped02 s
  | .unmapped03 => Sys2Proof.Machine.execUnmapped03 s
  | .unmapped04 => Sys2Proof.Machine.execUnmapped04 s
  | .unmapped07 => Sys2Proof.Machine.execUnmapped07 s
  | .unmapped0B => Sys2Proof.Machine.execUnmapped0B s
  | .unmapped0C => Sys2Proof.Machine.execUnmapped0C s
  | .unmapped0F => Sys2Proof.Machine.execUnmapped0F s
  | .unmapped12 => Sys2Proof.Machine.execUnmapped12 s
  | .unmapped13 => Sys2Proof.Machine.execUnmapped13 s
  | .unmapped14 => Sys2Proof.Machine.execUnmapped14 s
  | .unmapped17 => Sys2Proof.Machine.execUnmapped17 s
  | .unmapped1A => Sys2Proof.Machine.execUnmapped1A s
  | .unmapped1B => Sys2Proof.Machine.execUnmapped1B s
  | .unmapped1C => Sys2Proof.Machine.execUnmapped1C s
  | .unmapped1F => Sys2Proof.Machine.execUnmapped1F s
  | .unmapped22 => Sys2Proof.Machine.execUnmapped22 s
  | .unmapped23 => Sys2Proof.Machine.execUnmapped23 s
  | .unmapped27 => Sys2Proof.Machine.execUnmapped27 s
  | .unmapped2B => Sys2Proof.Machine.execUnmapped2B s
  | .unmapped2F => Sys2Proof.Machine.execUnmapped2F s
  | .unmapped32 => Sys2Proof.Machine.execUnmapped32 s
  | .unmapped33 => Sys2Proof.Machine.execUnmapped33 s
  | .unmapped34 => Sys2Proof.Machine.execUnmapped34 s
  | .unmapped37 => Sys2Proof.Machine.execUnmapped37 s
  | .unmapped3A => Sys2Proof.Machine.execUnmapped3A s
  | .unmapped3B => Sys2Proof.Machine.execUnmapped3B s
  | .unmapped3C => Sys2Proof.Machine.execUnmapped3C s
  | .unmapped3F => Sys2Proof.Machine.execUnmapped3F s
  | .unmapped42 => Sys2Proof.Machine.execUnmapped42 s
  | .unmapped43 => Sys2Proof.Machine.execUnmapped43 s
  | .unmapped44 => Sys2Proof.Machine.execUnmapped44 s
  | .unmapped47 => Sys2Proof.Machine.execUnmapped47 s
  | .unmapped4B => Sys2Proof.Machine.execUnmapped4B s
  | .unmapped4F => Sys2Proof.Machine.execUnmapped4F s
  | .unmapped52 => Sys2Proof.Machine.execUnmapped52 s
  | .unmapped53 => Sys2Proof.Machine.execUnmapped53 s
  | .unmapped54 => Sys2Proof.Machine.execUnmapped54 s
  | .unmapped57 => Sys2Proof.Machine.execUnmapped57 s
  | .unmapped5A => Sys2Proof.Machine.execUnmapped5A s
  | .unmapped5B => Sys2Proof.Machine.execUnmapped5B s
  | .unmapped5C => Sys2Proof.Machine.execUnmapped5C s
  | .unmapped5F => Sys2Proof.Machine.execUnmapped5F s
  | .unmapped62 => Sys2Proof.Machine.execUnmapped62 s
  | .unmapped63 => Sys2Proof.Machine.execUnmapped63 s
  | .unmapped64 => Sys2Proof.Machine.execUnmapped64 s
  | .unmapped67 => Sys2Proof.Machine.execUnmapped67 s
  | .unmapped6B => Sys2Proof.Machine.execUnmapped6B s
  | .unmapped6F => Sys2Proof.Machine.execUnmapped6F s
  | .unmapped72 => Sys2Proof.Machine.execUnmapped72 s
  | .unmapped73 => Sys2Proof.Machine.execUnmapped73 s
  | .unmapped74 => Sys2Proof.Machine.execUnmapped74 s
  | .unmapped77 => Sys2Proof.Machine.execUnmapped77 s
  | .unmapped7A => Sys2Proof.Machine.execUnmapped7A s
  | .unmapped7B => Sys2Proof.Machine.execUnmapped7B s
  | .unmapped7C => Sys2Proof.Machine.execUnmapped7C s
  | .unmapped7F => Sys2Proof.Machine.execUnmapped7F s
  | .unmapped80 => Sys2Proof.Machine.execUnmapped80 s
  | .unmapped82 => Sys2Proof.Machine.execUnmapped82 s
  | .unmapped83 => Sys2Proof.Machine.execUnmapped83 s
  | .unmapped87 => Sys2Proof.Machine.execUnmapped87 s
  | .unmapped89 => Sys2Proof.Machine.execUnmapped89 s
  | .unmapped8B => Sys2Proof.Machine.execUnmapped8B s
  | .unmapped8F => Sys2Proof.Machine.execUnmapped8F s
  | .unmapped92 => Sys2Proof.Machine.execUnmapped92 s
  | .unmapped93 => Sys2Proof.Machine.execUnmapped93 s
  | .unmapped97 => Sys2Proof.Machine.execUnmapped97 s
  | .unmapped9B => Sys2Proof.Machine.execUnmapped9B s
  | .unmapped9C => Sys2Proof.Machine.execUnmapped9C s
  | .unmapped9E => Sys2Proof.Machine.execUnmapped9E s
  | .unmapped9F => Sys2Proof.Machine.execUnmapped9F s
  | .unmappedA3 => Sys2Proof.Machine.execUnmappedA3 s
  | .unmappedA7 => Sys2Proof.Machine.execUnmappedA7 s
  | .unmappedAB => Sys2Proof.Machine.execUnmappedAB s
  | .unmappedAF => Sys2Proof.Machine.execUnmappedAF s
  | .unmappedB2 => Sys2Proof.Machine.execUnmappedB2 s
  | .unmappedB3 => Sys2Proof.Machine.execUnmappedB3 s
  | .unmappedB7 => Sys2Proof.Machine.execUnmappedB7 s
  | .unmappedBB => Sys2Proof.Machine.execUnmappedBB s
  | .unmappedBF => Sys2Proof.Machine.execUnmappedBF s
  | .unmappedC2 => Sys2Proof.Machine.execUnmappedC2 s
  | .unmappedC3 => Sys2Proof.Machine.execUnmappedC3 s
  | .unmappedC7 => Sys2Proof.Machine.execUnmappedC7 s
  | .unmappedCB => Sys2Proof.Machine.execUnmappedCB s
  | .unmappedCF => Sys2Proof.Machine.execUnmappedCF s
  | .unmappedD2 => Sys2Proof.Machine.execUnmappedD2 s
  | .unmappedD3 => Sys2Proof.Machine.execUnmappedD3 s
  | .unmappedD4 => Sys2Proof.Machine.execUnmappedD4 s
  | .unmappedD7 => Sys2Proof.Machine.execUnmappedD7 s
  | .unmappedDA => Sys2Proof.Machine.execUnmappedDA s
  | .unmappedDB => Sys2Proof.Machine.execUnmappedDB s
  | .unmappedDC => Sys2Proof.Machine.execUnmappedDC s
  | .unmappedDF => Sys2Proof.Machine.execUnmappedDF s
  | .unmappedE2 => Sys2Proof.Machine.execUnmappedE2 s
  | .unmappedE3 => Sys2Proof.Machine.execUnmappedE3 s
  | .unmappedE7 => Sys2Proof.Machine.execUnmappedE7 s
  | .unmappedEB => Sys2Proof.Machine.execUnmappedEB s
  | .unmappedEF => Sys2Proof.Machine.execUnmappedEF s
  | .unmappedF2 => Sys2Proof.Machine.execUnmappedF2 s
  | .unmappedF3 => Sys2Proof.Machine.execUnmappedF3 s
  | .unmappedF4 => Sys2Proof.Machine.execUnmappedF4 s
  | .unmappedF7 => Sys2Proof.Machine.execUnmappedF7 s
  | .unmappedFA => Sys2Proof.Machine.execUnmappedFA s
  | .unmappedFB => Sys2Proof.Machine.execUnmappedFB s
  | .unmappedFC => Sys2Proof.Machine.execUnmappedFC s
  | .unmappedFF => Sys2Proof.Machine.execUnmappedFF s

end Sys2Proof.Machine
end

