-- ==== Sys2Proof/Machine/Iteration.lean ====
section
/-! DEFINITION. The parts of one iteration of the loop around the instruction (spec/40_execution_loop.md), and placing an
instruction where the next fetch finds it. -/

namespace Sys2Proof.Machine

/-- Fetch an instruction at PC: the opcode byte, then the operand bytes its form takes, each by a bus read that advances PC
(R94, R95; spec/41_addressing_modes.md R110; spec/30_encoding.md R76). -/
def fetchInstr (s : State) : Instr × State :=
  let op := fetch8 s
  match formOf op.1 with
  | .plain i => (i, op.2)
  | .byte k =>
    let b := fetch8 op.2
    (k b.1, b.2)
  | .rel k =>
    let b := fetch8 op.2
    (k (signed8 b.1), b.2)
  | .word k =>
    let w := fetch16 op.2
    (k w.1, w.2)

/-- What an iteration samples when the host has nothing to say: the fetch is permitted (log 6). -/
def HostInput.quiet : HostInput :=
  { fetchPermit := true, assertNmi := false, requestIrq := false, stop := .keepRunning }

/-- The requests that arrived since the iteration before set their pending flags; a flag already set absorbs a second
request (spec/60_exceptions.md R243, R244; spec/10_state.md R17). -/
def arrive (input : HostInput) (s : State) : State :=
  (s.setNmiPending (s.nmiPending || input.assertNmi)).setIrqPending (s.irqPending || input.requestIrq)

/-- The input of this iteration, and the state with it consumed and its requests arrived. -/
def takeInput (s : State) : HostInput × State :=
  match s.inputs with
  | [] => (.quiet, s)
  | input :: rest => (input, arrive input (s.setInputs rest))

/-- Steps 5 and 6 of R90: the loop ends when B became 1 in this iteration (R96), else when the deadline elapsed (R97). -/
def endIteration (bAtStart : Bool) (stop : StopRequest) (s : State) : State :=
  if s.flags.b && !bAtStart then s.setExit (some .halted)
  else if stop = .deadline then s.setExit (some .deadline)
  else s

/-- What an iteration does: it is over without an instruction, or an instruction has been fetched. -/
inductive Plan where
  | finished (t : State)
  | execute (i : Instr) (t : State) (bAtStart : Bool) (stop : StopRequest)
  deriving DecidableEq, Repr

/-- Steps 1 to 4 of R90 for an iteration that the host does not stop: an interrupt entry, else a fetch if permitted, else
nothing. -/
def planRunning (input : HostInput) (s : State) : Plan :=
  match interruptToTake s with
  | some k => .finished (endIteration s.flags.b input.stop (interruptEntry k s))
  | none =>
    if input.fetchPermit then
      let f := fetchInstr s
      .execute f.1 f.2 s.flags.b input.stop
    else .finished (endIteration s.flags.b input.stop s)

/-- An iteration up to its instruction (R90). When the loop is not running nothing happens (R102; log 8). A cancellation or
a gate timeout leaves the loop first (R98). -/
def planIteration (s : State) : Plan :=
  match s.exit with
  | some _ => .finished s
  | none =>
    let r := takeInput s
    match r.1.stop with
    | .cancellation => .finished (r.2.setExit (some .cancelled))
    | .gateTimeout => .finished (r.2.setExit (some .gateTimeout))
    | .keepRunning => planRunning r.1 r.2
    | .deadline => planRunning r.1 r.2

/-! ### Placing an instruction from outside -/

/-- Give the owner of a slot a byte, whether or not the bus may write it. -/
def pokeIn : List Device → Nat → Byte → List Device
  | [], _, _ => []
  | d :: rest, a, v =>
    if d.covers a then { d with cells := Memory.write d.cells (a - d.base) v } :: rest else d :: pokeIn rest a v

/-- Put a byte where a fetch reads it: into the owner when that is a readable RAM or ROM, else into a one-byte RAM installed
over the slot. -/
def placeByte (a : Word) (v : Byte) (s : State) : State :=
  match s.bus.owner a with
  | some d =>
    if d.canRead && d.isStorage then s.setBus { s.bus with devices := pokeIn s.bus.devices a.toNat v }
    else s.setBus { s.bus with devices := { Device.ram a.toNat 1 with cells := Memory.write [] 0 v } :: s.bus.devices }
  | none =>
    s.setBus { s.bus with devices := { Device.ram a.toNat 1 with cells := Memory.write [] 0 v } :: s.bus.devices }

/-- Three bytes at PC, the longest instruction. -/
def placeInstr (b0 b1 b2 : Byte) (s : State) : State :=
  placeByte (s.pc + 2#16) b2 (placeByte (s.pc + 1#16) b1 (placeByte s.pc b0 s))

/-- The loop runs, the next iteration's input is the quiet one, and no interrupt would be taken before the fetch; a request
that is held back stays pending. -/
def readyToFetch (s : State) : State :=
  (((s.setExit none).setInputs []).setNmiPending (s.nmiPending && s.servicing)).setIrqPending
    (s.irqPending && (s.servicing || s.flags.i))

end Sys2Proof.Machine
end

