-- ==== Sys2Proof/Machine/Step.lean ====
section
/-! DEFINITION. One step of the machine: one iteration of the loop (spec/40_execution_loop.md R90). -/

namespace Sys2Proof.Machine

/-- One iteration of R90: what comes before the instruction, the instruction, then the tests that end the loop. -/
def step (s : State) : Host.Outcome State Fault Refusal :=
  match planIteration s with
  | .finished t => .next t
  | .execute i t bAtStart stop =>
    match exec i t with
    | .next u => .next (endIteration bAtStart stop u)
    | .fault f => .fault f
    | .refused r => .refused r

/-- The state with the instruction whose bits are `w` stored at PC, so that the next step fetches and runs it (log 9). -/
def State.withFetchWord (s : State) (nbits w : Nat) : State :=
  readyToFetch (placeInstr (tableByte nbits w 0) (tableByte nbits w 1) (tableByte nbits w 2) s)

end Sys2Proof.Machine
end

