-- ==== Sys2Proof/Machine/HostOps.lean ====
section
/-! DEFINITION. What the host does to the block between iterations (spec/40_execution_loop.md R103, spec/00_scope.md R5): none of
these is a step of the machine. -/

namespace Sys2Proof.Machine

/-- The number of a halt reason (spec/60_exceptions.md R241, spec/92_eei_decisions.md D27). -/
def HaltReason.toNat : HaltReason → Nat
  | .none => 0
  | .breakHalt => 1
  | .stackOverflow => 2
  | .stackUnderflow => 3

/-- A ROM region holding an image: readable, not writable until burn mode (spec/20_memory.md R58). -/
def Device.rom (base size : Nat) (cells : List Host.Cell) : Device :=
  { kind := .rom, base := base, size := size, canRead := true, canWrite := false, cells := cells }

/-- A device of which only the contract is known (spec/20_memory.md R40): the peripheral with that number. -/
def Device.peripheral (number base size : Nat) (canRead canWrite : Bool) : Device :=
  { kind := .peripheral number, base := base, size := size, canRead := canRead, canWrite := canWrite, cells := [] }

/-- `install(device)` of spec/20_memory.md R41, R42: the new device takes every slot of its range from an earlier owner. A
range past 65536 is refused (spec/92_eei_decisions.md D38). -/
def install (d : Device) (s : State) : Host.Outcome State Fault Refusal :=
  if d.base + d.size ≤ Config.addressSpace then
    .next (s.setBus { s.bus with devices := d :: s.bus.devices })
  else .refused .installPastTop

/-- Turn burn mode on or off in a ROM (spec/20_memory.md R58); other devices have none. -/
def Device.setBurn (on : Bool) (d : Device) : Device :=
  match d.kind with
  | .rom => { d with canWrite := on }
  | .ram | .peripheral _ => d

/-- Turn burn mode on or off in the ROMs at a base address. DESIGN CHOICE (log 26): the spec gives a switch of the ROM and
not how the host names the ROM (R58, spec/91_not_in_source.md N30); the model names it by its base address, so every ROM
installed at that base is switched together. -/
def setBurn (base : Nat) (on : Bool) (s : State) : State :=
  s.setBus { s.bus with devices := s.bus.devices.map (fun d => if d.base = base then d.setBurn on else d) }

/-- A device's `read` called directly, not through the bus: an offset outside its size is a misuse (spec/20_memory.md
R59). DESIGN CHOICE (log 27): R59 speaks only of the size; at an offset inside it the call is made whether or not the device
can be read, so an unreadable device answers too. -/
def Device.readAt (d : Device) (off : Nat) (s : State) : Except Fault (Byte × State) :=
  if off < d.size then .ok (d.read off s) else .error .busMisuse

/-- A device's `write` called directly, not through the bus (spec/20_memory.md R59): the device and the state after.
DESIGN CHOICE (log 27): at an offset inside the size the call is made whether or not the device can be written: a peripheral
is handed it, and a RAM or ROM that cannot write keeps its bytes. -/
def Device.writeAt (d : Device) (off : Nat) (v : Byte) (s : State) : Except Fault (Device × State) :=
  if off < d.size then .ok (d.store off v, d.handed off v s) else .error .busMisuse

/-- `Reset()` of spec/70_reset_and_hazards.md R270: the register file, the pending flags, `servicing`, the halt reason and
the counter; PC through the bus as it stands. The owner table, the devices' contents, the watermark and everything of the
host stay (R272). -/
def engineReset (s : State) : State :=
  let t := ((((((((((s.setA 0x00#8).setX 0x00#8).setY 0x00#8).setSp 0xFF#8).setFlags Flags.reset).setNmiPending
    false).setIrqPending false).setServicing false).setHaltReason .none).setInvalidOpcodeCount 0)
  let v := readWord Config.resetVector t
  v.2.setPc v.1

/-- The host starts a run (spec/40_execution_loop.md R101, spec/92_eei_decisions.md D32): the halt reason is None and the loop
runs. The host's duty is to do so with B = 0, see `Safety.launchable`. -/
def startRun (s : State) : State := (s.setHaltReason .none).setExit none

/-- `assert_nmi()` (spec/60_exceptions.md R243). -/
def assertNmi (s : State) : State := s.setNmiPending true

/-- `request_irq()` (spec/60_exceptions.md R244); the blocking of its caller is outside the block. -/
def requestIrq (s : State) : State := s.setIrqPending true

end Sys2Proof.Machine
end

