-- ==== Sys2Proof/Machine/Loader.lean ====
section
/-! DEFINITION. The loader at the block's boundary: what decides the bytes that reach memory (spec/30_encoding.md R78 to R82). -/

namespace Sys2Proof.Machine

/-- The byte selector of a reference (R79). -/
inductive Selector where
  | both
  | lo
  | hi
  deriving DecidableEq, Repr

/-- What a reference patches (R79): a word, a byte, or the operand of a branch. -/
inductive RefSite where
  | word
  | byte
  | relative
  deriving DecidableEq, Repr

/-- A Pending Reference (R79): what `parseReference` finds in the label text, and the patch site. -/
structure PendingRef where
  /-- Where the placeholder is. -/
  address : Nat
  label : String
  /-- The signed numeric offset, 0 if none. -/
  offset : Int
  selector : Selector
  site : RefSite
  deriving DecidableEq, Repr

/-- The loader: the machine whose bus it writes, its cursor, the labels of the active scope, the pending references. -/
structure Loader where
  machine : State
  /-- The next address; 65536 when the last slot has just been written. -/
  cursor : Nat
  labels : List (String × Nat)
  pending : List PendingRef
  deriving DecidableEq, Repr

/-- A loader on a machine, with no label and no reference. DESIGN CHOICE (log 17): the spec gives no cursor before the first
`from`; the model starts it at 0. -/
def Loader.start (s : State) : Loader := { machine := s, cursor := 0, labels := [], pending := [] }

/-- `write(value)` (R78): through the bus, so an unowned slot or a ROM loses the byte (spec/20_memory.md R62). A write past
0xFFFF is not defined and is refused (spec/93_implementation_defined.md U14). -/
def Loader.write (v : Byte) (l : Loader) : Except Refusal Loader :=
  if l.cursor < Config.addressSpace then
    .ok { l with machine := busWrite (BitVec.ofNat 16 l.cursor) v l.machine, cursor := l.cursor + 1 }
  else .error .loaderPastTop

/-- `write_word(value)` (R78): little-endian. -/
def Loader.writeWord (w : Word) (l : Loader) : Except Refusal Loader :=
  match l.write (lowByte w) with
  | .ok m => m.write (highByte w)
  | .error e => .error e

/-- `from(address)` (R78): moves the cursor and writes nothing. -/
def Loader.origin (a : Word) (l : Loader) : Loader := { l with cursor := a.toNat }

/-- The address of a label in the active scope. -/
def findLabel : List (String × Nat) → String → Option Nat
  | [], _ => none
  | (n, a) :: rest, name => if n = name then some a else findLabel rest name

/-- `label(name)` (R78): a duplicate in the scope is an error. -/
def Loader.label (name : String) (l : Loader) : Except Refusal Loader :=
  match findLabel l.labels name with
  | some _ => .error .duplicateLabel
  | none => .ok { l with labels := (name, l.cursor) :: l.labels }

/-- `ref`, `ref_byte`, `relative_ref` (R79): write the placeholder and enqueue the reference. DESIGN CHOICE (log 17): the
spec does not say whether a second reference at the same placeholder address replaces the first; the model keeps both, and
fixup checks both and patches them in the order they were made. -/
def Loader.reference (site : RefSite) (label : String) (offset : Int) (selector : Selector) (l : Loader) :
    Except Refusal Loader :=
  let r : PendingRef := { address := l.cursor, label := label, offset := offset, selector := selector, site := site }
  let written := match site with
    | .word => l.writeWord 0xFFFF#16
    | .byte | .relative => l.write 0xFF#8
  match written with
  | .ok m => .ok { m with pending := m.pending ++ [r] }
  | .error e => .error e

/-- `selected(v)` of R80. -/
def selected (s : Selector) (v : Int) : Int :=
  match s with
  | .both => v
  | .lo => v % 256
  | .hi => (v / 256) % 256

/-- The value of decimal digits, the most significant first. -/
def decimalValue (digits : List Char) : Nat :=
  digits.foldl (fun n c => 10 * n + (c.toNat - '0'.toNat)) 0

/-- The `:LO` or `:HI` suffix of a label text, and the text before it (R79). -/
def splitSelector (text : List Char) : List Char × Selector :=
  match text.reverse with
  | 'O' :: 'L' :: ':' :: rest => (rest.reverse, .lo)
  | 'I' :: 'H' :: ':' :: rest => (rest.reverse, .hi)
  | _ => (text, .both)

/-- The `+N` or `-N` suffix of a label text, N in decimal digits (log 17), and the text before it; 0 if there is none
(R79). -/
def splitOffset (text : List Char) : List Char × Int :=
  let digits := text.reverse.takeWhile Char.isDigit
  match digits, text.reverse.dropWhile Char.isDigit with
  | _ :: _, '+' :: rest => (rest.reverse, (decimalValue digits.reverse : Int))
  | _ :: _, '-' :: rest => (rest.reverse, -(decimalValue digits.reverse : Int))
  | _, _ => (text, 0)

/-- The name, offset and selector in a label text, parsed once when the reference is created (R79). -/
def parseReference (text : List Char) : List Char × Int × Selector :=
  let r := splitSelector text
  let o := splitOffset r.1
  (o.1, o.2, r.2)

/-- A reference whose label text is still to be parsed (R79). -/
def Loader.referenceText (site : RefSite) (text : String) (l : Loader) : Except Refusal Loader :=
  let r := parseReference text.toList
  l.reference site (String.ofList r.1) r.2.1 r.2.2

/-- `ref(text)` (R79): a word, placeholder 0xFFFF. -/
def Loader.ref (text : String) (l : Loader) : Except Refusal Loader := l.referenceText .word text

/-- `ref_byte(text)` (R79): a byte, placeholder 0xFF. -/
def Loader.refByte (text : String) (l : Loader) : Except Refusal Loader := l.referenceText .byte text

/-- `relative_ref(text)` (R79): the operand of a branch, placeholder 0xFF. -/
def Loader.relativeRef (text : String) (l : Loader) : Except Refusal Loader := l.referenceText .relative text

/-- Why a reference cannot be patched (R80, R81). -/
inductive FixupError where
  | unresolved (label : String)
  | outOfRange (label : String)
  deriving DecidableEq, Repr

/-- The value a reference patches in, if it is in range (R80). -/
def PendingRef.value (r : PendingRef) (labelAddress : Nat) : Except FixupError Int :=
  match r.site with
  | .word =>
    let v := selected r.selector (labelAddress + r.offset)
    if 0 ≤ v ∧ v ≤ 65535 then .ok v else .error (.outOfRange r.label)
  | .byte =>
    let v := selected r.selector (labelAddress + r.offset)
    if 0 ≤ v ∧ v ≤ 255 then .ok v else .error (.outOfRange r.label)
  | .relative =>
    let d := selected r.selector (labelAddress + r.offset - r.address - 1)
    if validDisplacement d then .ok d else .error (.outOfRange r.label)

/-- A reference resolved against the labels. -/
def PendingRef.resolve (labels : List (String × Nat)) (r : PendingRef) : Except FixupError Int :=
  match findLabel labels r.label with
  | some a => r.value a
  | none => .error (.unresolved r.label)

/-- Write a resolved value over its placeholder (R80). -/
def PendingRef.patch (r : PendingRef) (v : Int) (s : State) : State :=
  match r.site with
  | .word => Machine.writeWord (BitVec.ofNat 16 r.address) (wordOfInt v) s
  | .byte | .relative => busWrite (BitVec.ofNat 16 r.address) (byteOfInt v) s

/-- All the errors of a list of references: a failed load reports the full set (R81). -/
def fixupErrors (labels : List (String × Nat)) : List PendingRef → List FixupError
  | [] => []
  | r :: rest =>
    match r.resolve labels with
    | .ok _ => fixupErrors labels rest
    | .error e => e :: fixupErrors labels rest

/-- Patch every reference that resolves. -/
def patchAll (labels : List (String × Nat)) : List PendingRef → State → State
  | [], s => s
  | r :: rest, s =>
    match r.resolve labels with
    | .ok v => patchAll labels rest (r.patch v s)
    | .error _ => patchAll labels rest s

/-- `fixup()` (R80, R81): all or nothing; the errors, or the loader with every reference patched. -/
def Loader.fixup (l : Loader) : Except (List FixupError) Loader :=
  match fixupErrors l.labels l.pending with
  | [] => .ok { l with machine := patchAll l.labels l.pending l.machine, pending := [] }
  | e :: es => .error (e :: es)

/-- Leaving the loader's scope (R81): an implicit fixup; a machine whose load failed is not handed over. -/
def Loader.finish (l : Loader) : Host.Outcome State Fault Refusal :=
  match l.fixup with
  | .ok m => .next m.machine
  | .error _ => .refused .fixupFailed

/-- Write bytes at rising addresses. -/
def writeBytes : Nat → List Byte → State → State
  | _, [], s => s
  | a, v :: rest, s => writeBytes (a + 1) rest (busWrite (BitVec.ofNat 16 a) v s)

/-- Load a binary image (R82): a header of load address and length, then that many bytes; the loader may override the
address. An image past 0xFFFF is refused (spec/93_implementation_defined.md U14; log 18). -/
def loadImage (image : List Byte) (address : Option Word) (s : State) : Host.Outcome State Fault Refusal :=
  match image with
  | aLo :: aHi :: nLo :: nHi :: payload =>
    let base := (address.getD (wordOf aHi aLo)).toNat
    if payload.length = (wordOf nHi nLo).toNat then
      if base + payload.length ≤ Config.addressSpace then .next (writeBytes base payload s)
      else .refused .imagePastTop
    else .refused .malformedImage
  | _ => .refused .malformedImage

end Sys2Proof.Machine
end

