-- ==== Sys2Proof/Machine/Observer.lean ====
section
/-! DEFINITION. The observer's output (spec/10_state.md R16): a function of two states, outside the architectural state. -/

namespace Sys2Proof.Machine

/-- The tracked registers and flags. DESIGN CHOICE (log 20): the spec gives neither their names nor which quantities are
tracked (spec/91_not_in_source.md N20, spec/92_eei_decisions.md D37); the model tracks PC, SP, A, X, Y and the seven stored
flags. -/
inductive Tracked where
  | pc | sp | a | x | y
  | carry | zero | interruptDisable | decimal | brk | overflow | negative
  deriving DecidableEq, Repr

/-- The numeric value of a tracked register or flag. -/
def State.tracked (s : State) : Tracked → Nat
  | .pc => s.pc.toNat
  | .sp => s.sp.toNat
  | .a => s.a.toNat
  | .x => s.x.toNat
  | .y => s.y.toNat
  | .carry => s.flags.c.toNat
  | .zero => s.flags.z.toNat
  | .interruptDisable => s.flags.i.toNat
  | .decimal => s.flags.d.toNat
  | .brk => s.flags.b.toNat
  | .overflow => s.flags.v.toNat
  | .negative => s.flags.n.toNat

/-- Every tracked quantity, in the order of a notification's list. DESIGN CHOICE (log 20): which they are, and their order. -/
def Tracked.all : List Tracked :=
  [.pc, .sp, .a, .x, .y, .carry, .zero, .interruptDisable, .decimal, .brk, .overflow, .negative]

/-- The notifications of an assignment that takes the machine from `s` to `t` (R16): name and new value of each quantity
whose value changed; an assignment of the value already held emits nothing. -/
def notifications (s t : State) : List (Tracked × Nat) :=
  (Tracked.all.filter (fun q => s.tracked q != t.tracked q)).map (fun q => (q, t.tracked q))

end Sys2Proof.Machine
end

