-- ==== Sys2Proof/Safety.lean ====
section
/-! DEFINITION. The terms in which claims speak of safe states and runs. -/

namespace Sys2Proof.Safety

open Sys2Proof.Machine

/-- The invariant of the bus: every device inside the address space (spec/20_memory.md R41), every storage in canonical form
and inside its device's size (R59). -/
abbrev BusOk (s : State) : Prop := s.bus.wf = true

/-- Two devices differ in their stored bytes only. -/
def SameShape (d e : Device) : Prop :=
  d.kind = e.kind ∧ d.base = e.base ∧ d.size = e.size ∧ d.canRead = e.canRead ∧ d.canWrite = e.canWrite

/-- The same devices own the same slots, with the same rights (spec/10_state.md R21). -/
def SameOwners (s t : State) : Prop :=
  List.Forall₂ SameShape s.bus.devices t.bus.devices

/-- The bytes that nothing may change through the bus: those of a device that cannot write (spec/20_memory.md R44, R58). -/
def KeepsReadOnly (s t : State) : Prop :=
  List.Forall₂ (fun d e => d.canWrite = false → d.cells = e.cells) s.bus.devices t.bus.devices

/-- The watermark only widens (spec/20_memory.md R45). -/
def WatermarkWidens (s t : State) : Prop :=
  t.bus.wmLow.toNat ≤ s.bus.wmLow.toNat ∧ s.bus.wmHigh.toNat ≤ t.bus.wmHigh.toNat

/-- What the host owes before it starts a run (spec/40_execution_loop.md R96, R101): B is 0 and no halt is recorded. -/
abbrev launchable (s : State) : Prop := s.flags.b = false ∧ s.haltReason = .none

/-- An outcome that is a next state. -/
def Completes (o : Host.Outcome State Fault Refusal) : Prop := ∃ t, o = .next t

/-- A readable and writable RAM, or a ROM in burn mode, owns the slot (spec/20_memory.md R58). -/
def RamAt (s : State) (a : Word) : Prop :=
  ∃ d, s.bus.owner a = some d ∧ d.canRead = true ∧ d.canWrite = true ∧ d.isStorage = true

/-- Every installed device is a RAM or a ROM. -/
def NoPeripherals (s : State) : Prop := ∀ d ∈ s.bus.devices, d.isStorage = true

/-- A call that the bus can make: of an installed peripheral, inside its size, with the right it takes (spec/20_memory.md
R43, R44, R59). -/
def CallOk (ds : List Device) (c : DeviceCall) : Prop :=
  ∃ d ∈ ds, d.kind = .peripheral c.device ∧ c.offset < d.size ∧
    match c.action with
    | .read => d.canRead = true
    | .write _ => d.canWrite = true

/-- Every call a peripheral has had is one that the bus can make. -/
def TrafficOk (s : State) : Prop := ∀ c ∈ s.traffic, CallOk s.bus.devices c

/-- The address reaches no peripheral, so a read of it leaves no trace (spec/20_memory.md R51). -/
abbrev Plain (s : State) (a : Word) : Prop := s.plainAt a = true

end Sys2Proof.Safety
end

