-- ==== Sys2Proof/Certificates/Slice0/Obligations.lean ====
section
/-! DEFINITION. The statements for the provers, and the terms they are written in. -/

open Sys2Proof Sys2Proof.Machine Sys2Proof.Safety

namespace Sys2Proof.Claims

/-- A one-byte form: the opcode alone decodes to the instruction, and `P` holds of it. -/
def PlainForm {ω : Type} (opcode : Byte) (i : Instr) (o : ω) (P : Instr → ω → Prop) : Prop :=
  decode [opcode] = .ok (i, []) ∧ P i o

/-- A form with one operand byte: every operand decodes, and `P` holds of the instruction. -/
def ByteForm {ω : Type} (opcode : Byte) (c : Byte → Instr) (mode : Byte → ω) (P : Instr → ω → Prop) : Prop :=
  ∀ b, decode [opcode, b] = .ok (c b, []) ∧ P (c b) (mode b)

/-- A form with a two-byte operand, low byte first. -/
def WordForm {ω : Type} (opcode : Byte) (c : Word → Instr) (mode : Word → ω) (P : Instr → ω → Prop) : Prop :=
  ∀ w, decode [opcode, lowByte w, highByte w] = .ok (c w, []) ∧ P (c w) (mode w)

/-- A relative form: every operand byte decodes to its signed value, and `P` holds whatever the displacement. -/
def RelForm (opcode : Byte) (c : Int → Instr) (P : Instr → Int → Prop) : Prop :=
  (∀ b, decode [opcode, b] = .ok (c (signed8 b), [])) ∧ ∀ off, P (c off) off

/-- An implied form without an operand. -/
def ImpliedForm (opcode : Byte) (i : Instr) (P : Instr → Prop) : Prop :=
  decode [opcode] = .ok (i, []) ∧ P i

/-- The forms of LDA and their opcode bytes (R131). -/
def LdaForms (P : Instr → Operand → Prop) : Prop :=
  ByteForm 0xA1#8 .ldaIndx (fun ll => .mem (.indx ll)) P ∧
  ByteForm 0xA5#8 .ldaZp (fun ll => .mem (.zp ll)) P ∧
  ByteForm 0xA9#8 .ldaImm .imm P ∧
  WordForm 0xAD#8 .ldaAbs (fun w => .mem (.abs w)) P ∧
  ByteForm 0xB1#8 .ldaIndy (fun ll => .mem (.indy ll)) P ∧
  ByteForm 0xB5#8 .ldaZpx (fun ll => .mem (.zpx ll)) P ∧
  WordForm 0xB9#8 .ldaAbsy (fun w => .mem (.absy w)) P ∧
  WordForm 0xBD#8 .ldaAbsx (fun w => .mem (.absx w)) P

/-- The forms of LDX and their opcode bytes (R132). -/
def LdxForms (P : Instr → Operand → Prop) : Prop :=
  ByteForm 0xA2#8 .ldxImm .imm P ∧
  ByteForm 0xA6#8 .ldxZp (fun ll => .mem (.zp ll)) P ∧
  WordForm 0xAE#8 .ldxAbs (fun w => .mem (.abs w)) P ∧
  ByteForm 0xB6#8 .ldxZpy (fun ll => .mem (.zpy ll)) P ∧
  WordForm 0xBE#8 .ldxAbsy (fun w => .mem (.absy w)) P

/-- The forms of LDY and their opcode bytes (R133). -/
def LdyForms (P : Instr → Operand → Prop) : Prop :=
  ByteForm 0xA0#8 .ldyImm .imm P ∧
  ByteForm 0xA4#8 .ldyZp (fun ll => .mem (.zp ll)) P ∧
  WordForm 0xAC#8 .ldyAbs (fun w => .mem (.abs w)) P ∧
  ByteForm 0xB4#8 .ldyZpx (fun ll => .mem (.zpx ll)) P ∧
  WordForm 0xBC#8 .ldyAbsx (fun w => .mem (.absx w)) P

/-- The forms of STA and their opcode bytes (R134). -/
def StaForms (P : Instr → MemOperand → Prop) : Prop :=
  ByteForm 0x81#8 .staIndx .indx P ∧
  ByteForm 0x85#8 .staZp .zp P ∧
  WordForm 0x8D#8 .staAbs .abs P ∧
  ByteForm 0x91#8 .staIndy .indy P ∧
  ByteForm 0x95#8 .staZpx .zpx P ∧
  WordForm 0x99#8 .staAbsy .absy P ∧
  WordForm 0x9D#8 .staAbsx .absx P

/-- The forms of STX and their opcode bytes (R135). -/
def StxForms (P : Instr → MemOperand → Prop) : Prop :=
  ByteForm 0x86#8 .stxZp .zp P ∧
  WordForm 0x8E#8 .stxAbs .abs P ∧
  ByteForm 0x96#8 .stxZpy .zpy P

/-- The forms of STY and their opcode bytes (R136). -/
def StyForms (P : Instr → MemOperand → Prop) : Prop :=
  ByteForm 0x84#8 .styZp .zp P ∧
  WordForm 0x8C#8 .styAbs .abs P ∧
  ByteForm 0x94#8 .styZpx .zpx P

/-- The forms of ADC and their opcode bytes (R151). -/
def AdcForms (P : Instr → Operand → Prop) : Prop :=
  ByteForm 0x61#8 .adcIndx (fun ll => .mem (.indx ll)) P ∧
  ByteForm 0x65#8 .adcZp (fun ll => .mem (.zp ll)) P ∧
  ByteForm 0x69#8 .adcImm .imm P ∧
  WordForm 0x6D#8 .adcAbs (fun w => .mem (.abs w)) P ∧
  ByteForm 0x71#8 .adcIndy (fun ll => .mem (.indy ll)) P ∧
  ByteForm 0x75#8 .adcZpx (fun ll => .mem (.zpx ll)) P ∧
  WordForm 0x79#8 .adcAbsy (fun w => .mem (.absy w)) P ∧
  WordForm 0x7D#8 .adcAbsx (fun w => .mem (.absx w)) P

/-- The forms of SBC and their opcode bytes (R152). -/
def SbcForms (P : Instr → Operand → Prop) : Prop :=
  ByteForm 0xE1#8 .sbcIndx (fun ll => .mem (.indx ll)) P ∧
  ByteForm 0xE5#8 .sbcZp (fun ll => .mem (.zp ll)) P ∧
  ByteForm 0xE9#8 .sbcImm .imm P ∧
  WordForm 0xED#8 .sbcAbs (fun w => .mem (.abs w)) P ∧
  ByteForm 0xF1#8 .sbcIndy (fun ll => .mem (.indy ll)) P ∧
  ByteForm 0xF5#8 .sbcZpx (fun ll => .mem (.zpx ll)) P ∧
  WordForm 0xF9#8 .sbcAbsy (fun w => .mem (.absy w)) P ∧
  WordForm 0xFD#8 .sbcAbsx (fun w => .mem (.absx w)) P

/-- The forms of CMP and their opcode bytes (R154). -/
def CmpForms (P : Instr → Operand → Prop) : Prop :=
  ByteForm 0xC1#8 .cmpIndx (fun ll => .mem (.indx ll)) P ∧
  ByteForm 0xC5#8 .cmpZp (fun ll => .mem (.zp ll)) P ∧
  ByteForm 0xC9#8 .cmpImm .imm P ∧
  WordForm 0xCD#8 .cmpAbs (fun w => .mem (.abs w)) P ∧
  ByteForm 0xD1#8 .cmpIndy (fun ll => .mem (.indy ll)) P ∧
  ByteForm 0xD5#8 .cmpZpx (fun ll => .mem (.zpx ll)) P ∧
  WordForm 0xD9#8 .cmpAbsy (fun w => .mem (.absy w)) P ∧
  WordForm 0xDD#8 .cmpAbsx (fun w => .mem (.absx w)) P

/-- The forms of CPX and their opcode bytes (R155). -/
def CpxForms (P : Instr → Operand → Prop) : Prop :=
  ByteForm 0xE0#8 .cpxImm .imm P ∧
  ByteForm 0xE4#8 .cpxZp (fun ll => .mem (.zp ll)) P ∧
  WordForm 0xEC#8 .cpxAbs (fun w => .mem (.abs w)) P

/-- The forms of CPY and their opcode bytes (R156). -/
def CpyForms (P : Instr → Operand → Prop) : Prop :=
  ByteForm 0xC0#8 .cpyImm .imm P ∧
  ByteForm 0xC4#8 .cpyZp (fun ll => .mem (.zp ll)) P ∧
  WordForm 0xCC#8 .cpyAbs (fun w => .mem (.abs w)) P

/-- The forms of INC and their opcode bytes (R157). -/
def IncForms (P : Instr → MemOperand → Prop) : Prop :=
  ByteForm 0xE6#8 .incZp .zp P ∧
  WordForm 0xEE#8 .incAbs .abs P ∧
  ByteForm 0xF6#8 .incZpx .zpx P ∧
  WordForm 0xFE#8 .incAbsx .absx P

/-- The forms of DEC and their opcode bytes (R158). -/
def DecForms (P : Instr → MemOperand → Prop) : Prop :=
  ByteForm 0xC6#8 .decZp .zp P ∧
  WordForm 0xCE#8 .decAbs .abs P ∧
  ByteForm 0xD6#8 .decZpx .zpx P ∧
  WordForm 0xDE#8 .decAbsx .absx P

/-- The forms of AND and their opcode bytes (R170). -/
def AndForms (P : Instr → Operand → Prop) : Prop :=
  ByteForm 0x21#8 .andIndx (fun ll => .mem (.indx ll)) P ∧
  ByteForm 0x25#8 .andZp (fun ll => .mem (.zp ll)) P ∧
  ByteForm 0x29#8 .andImm .imm P ∧
  WordForm 0x2D#8 .andAbs (fun w => .mem (.abs w)) P ∧
  ByteForm 0x31#8 .andIndy (fun ll => .mem (.indy ll)) P ∧
  ByteForm 0x35#8 .andZpx (fun ll => .mem (.zpx ll)) P ∧
  WordForm 0x39#8 .andAbsy (fun w => .mem (.absy w)) P ∧
  WordForm 0x3D#8 .andAbsx (fun w => .mem (.absx w)) P

/-- The forms of ORA and their opcode bytes (R171). -/
def OraForms (P : Instr → Operand → Prop) : Prop :=
  ByteForm 0x01#8 .oraIndx (fun ll => .mem (.indx ll)) P ∧
  ByteForm 0x05#8 .oraZp (fun ll => .mem (.zp ll)) P ∧
  ByteForm 0x09#8 .oraImm .imm P ∧
  WordForm 0x0D#8 .oraAbs (fun w => .mem (.abs w)) P ∧
  ByteForm 0x11#8 .oraIndy (fun ll => .mem (.indy ll)) P ∧
  ByteForm 0x15#8 .oraZpx (fun ll => .mem (.zpx ll)) P ∧
  WordForm 0x19#8 .oraAbsy (fun w => .mem (.absy w)) P ∧
  WordForm 0x1D#8 .oraAbsx (fun w => .mem (.absx w)) P

/-- The forms of EOR and their opcode bytes (R172). -/
def EorForms (P : Instr → Operand → Prop) : Prop :=
  ByteForm 0x41#8 .eorIndx (fun ll => .mem (.indx ll)) P ∧
  ByteForm 0x45#8 .eorZp (fun ll => .mem (.zp ll)) P ∧
  ByteForm 0x49#8 .eorImm .imm P ∧
  WordForm 0x4D#8 .eorAbs (fun w => .mem (.abs w)) P ∧
  ByteForm 0x51#8 .eorIndy (fun ll => .mem (.indy ll)) P ∧
  ByteForm 0x55#8 .eorZpx (fun ll => .mem (.zpx ll)) P ∧
  WordForm 0x59#8 .eorAbsy (fun w => .mem (.absy w)) P ∧
  WordForm 0x5D#8 .eorAbsx (fun w => .mem (.absx w)) P

/-- The forms of BIT and their opcode bytes (R173). -/
def BitForms (P : Instr → MemOperand → Prop) : Prop :=
  ByteForm 0x24#8 .bitZp .zp P ∧
  WordForm 0x2C#8 .bitAbs .abs P

/-- The forms of ASL and their opcode bytes (R175). -/
def AslForms (P : Instr → Place → Prop) : Prop :=
  ByteForm 0x06#8 .aslZp (fun ll => .mem (.zp ll)) P ∧
  PlainForm 0x0A#8 .aslAcc .acc P ∧
  WordForm 0x0E#8 .aslAbs (fun w => .mem (.abs w)) P ∧
  ByteForm 0x16#8 .aslZpx (fun ll => .mem (.zpx ll)) P ∧
  WordForm 0x1E#8 .aslAbsx (fun w => .mem (.absx w)) P

/-- The forms of LSR and their opcode bytes (R176). -/
def LsrForms (P : Instr → Place → Prop) : Prop :=
  ByteForm 0x46#8 .lsrZp (fun ll => .mem (.zp ll)) P ∧
  PlainForm 0x4A#8 .lsrAcc .acc P ∧
  WordForm 0x4E#8 .lsrAbs (fun w => .mem (.abs w)) P ∧
  ByteForm 0x56#8 .lsrZpx (fun ll => .mem (.zpx ll)) P ∧
  WordForm 0x5E#8 .lsrAbsx (fun w => .mem (.absx w)) P

/-- The forms of ROL and their opcode bytes (R177). -/
def RolForms (P : Instr → Place → Prop) : Prop :=
  ByteForm 0x26#8 .rolZp (fun ll => .mem (.zp ll)) P ∧
  PlainForm 0x2A#8 .rolAcc .acc P ∧
  WordForm 0x2E#8 .rolAbs (fun w => .mem (.abs w)) P ∧
  ByteForm 0x36#8 .rolZpx (fun ll => .mem (.zpx ll)) P ∧
  WordForm 0x3E#8 .rolAbsx (fun w => .mem (.absx w)) P

/-- The forms of ROR and their opcode bytes (R178). -/
def RorForms (P : Instr → Place → Prop) : Prop :=
  ByteForm 0x66#8 .rorZp (fun ll => .mem (.zp ll)) P ∧
  PlainForm 0x6A#8 .rorAcc .acc P ∧
  WordForm 0x6E#8 .rorAbs (fun w => .mem (.abs w)) P ∧
  ByteForm 0x76#8 .rorZpx (fun ll => .mem (.zpx ll)) P ∧
  WordForm 0x7E#8 .rorAbsx (fun w => .mem (.absx w)) P

/-- The forms of JMP and their opcode bytes (R209). -/
def JmpForms (P : Instr → MemOperand → Prop) : Prop :=
  WordForm 0x4C#8 .jmpAbs .abs P ∧
  WordForm 0x6C#8 .jmpInd .ind P

/-- Part 1 of `unmappedRows`. -/
def unmappedPart1 : List (Byte × Instr) :=
  [(0x02#8, .unmapped02), (0x03#8, .unmapped03), (0x04#8, .unmapped04), (0x07#8, .unmapped07), (0x0B#8, .unmapped0B),
   (0x0C#8, .unmapped0C), (0x0F#8, .unmapped0F), (0x12#8, .unmapped12), (0x13#8, .unmapped13), (0x14#8, .unmapped14),
   (0x17#8, .unmapped17), (0x1A#8, .unmapped1A), (0x1B#8, .unmapped1B), (0x1C#8, .unmapped1C), (0x1F#8, .unmapped1F)]

/-- Part 2 of `unmappedRows`. -/
def unmappedPart2 : List (Byte × Instr) :=
  [(0x22#8, .unmapped22), (0x23#8, .unmapped23), (0x27#8, .unmapped27), (0x2B#8, .unmapped2B), (0x2F#8, .unmapped2F),
   (0x32#8, .unmapped32), (0x33#8, .unmapped33), (0x34#8, .unmapped34), (0x37#8, .unmapped37), (0x3A#8, .unmapped3A),
   (0x3B#8, .unmapped3B), (0x3C#8, .unmapped3C), (0x3F#8, .unmapped3F), (0x42#8, .unmapped42), (0x43#8, .unmapped43)]

/-- Part 3 of `unmappedRows`. -/
def unmappedPart3 : List (Byte × Instr) :=
  [(0x44#8, .unmapped44), (0x47#8, .unmapped47), (0x4B#8, .unmapped4B), (0x4F#8, .unmapped4F), (0x52#8, .unmapped52),
   (0x53#8, .unmapped53), (0x54#8, .unmapped54), (0x57#8, .unmapped57), (0x5A#8, .unmapped5A), (0x5B#8, .unmapped5B),
   (0x5C#8, .unmapped5C), (0x5F#8, .unmapped5F), (0x62#8, .unmapped62), (0x63#8, .unmapped63), (0x64#8, .unmapped64)]

/-- Part 4 of `unmappedRows`. -/
def unmappedPart4 : List (Byte × Instr) :=
  [(0x67#8, .unmapped67), (0x6B#8, .unmapped6B), (0x6F#8, .unmapped6F), (0x72#8, .unmapped72), (0x73#8, .unmapped73),
   (0x74#8, .unmapped74), (0x77#8, .unmapped77), (0x7A#8, .unmapped7A), (0x7B#8, .unmapped7B), (0x7C#8, .unmapped7C),
   (0x7F#8, .unmapped7F), (0x80#8, .unmapped80), (0x82#8, .unmapped82), (0x83#8, .unmapped83), (0x87#8, .unmapped87)]

/-- Part 5 of `unmappedRows`. -/
def unmappedPart5 : List (Byte × Instr) :=
  [(0x89#8, .unmapped89), (0x8B#8, .unmapped8B), (0x8F#8, .unmapped8F), (0x92#8, .unmapped92), (0x93#8, .unmapped93),
   (0x97#8, .unmapped97), (0x9B#8, .unmapped9B), (0x9C#8, .unmapped9C), (0x9E#8, .unmapped9E), (0x9F#8, .unmapped9F),
   (0xA3#8, .unmappedA3), (0xA7#8, .unmappedA7), (0xAB#8, .unmappedAB), (0xAF#8, .unmappedAF), (0xB2#8, .unmappedB2)]

/-- Part 6 of `unmappedRows`. -/
def unmappedPart6 : List (Byte × Instr) :=
  [(0xB3#8, .unmappedB3), (0xB7#8, .unmappedB7), (0xBB#8, .unmappedBB), (0xBF#8, .unmappedBF), (0xC2#8, .unmappedC2),
   (0xC3#8, .unmappedC3), (0xC7#8, .unmappedC7), (0xCB#8, .unmappedCB), (0xCF#8, .unmappedCF), (0xD2#8, .unmappedD2),
   (0xD3#8, .unmappedD3), (0xD4#8, .unmappedD4), (0xD7#8, .unmappedD7), (0xDA#8, .unmappedDA), (0xDB#8, .unmappedDB)]

/-- Part 7 of `unmappedRows`. -/
def unmappedPart7 : List (Byte × Instr) :=
  [(0xDC#8, .unmappedDC), (0xDF#8, .unmappedDF), (0xE2#8, .unmappedE2), (0xE3#8, .unmappedE3), (0xE7#8, .unmappedE7),
   (0xEB#8, .unmappedEB), (0xEF#8, .unmappedEF), (0xF2#8, .unmappedF2), (0xF3#8, .unmappedF3), (0xF4#8, .unmappedF4),
   (0xF7#8, .unmappedF7), (0xFA#8, .unmappedFA), (0xFB#8, .unmappedFB), (0xFC#8, .unmappedFC), (0xFF#8, .unmappedFF)]

/-- The bytes of R75 and the constructors that stand for them. -/
def unmappedRows : List (Byte × Instr) :=
  unmappedPart1 ++ unmappedPart2 ++ unmappedPart3 ++ unmappedPart4 ++ unmappedPart5 ++ unmappedPart6 ++ unmappedPart7

/-- The constructors of the 105 unmapped bytes. -/
def isUnmapped (i : Instr) : Bool := (unmappedRows.map (·.2)).contains i

/-- `SetNZ(v)` in numbers (R130): Z is 1 iff the value is 0, N is 1 iff it is at least 128. -/
def nz (v : Byte) (f : Flags) : Flags :=
  { f with z := decide (v.toNat = 0), n := decide (128 ≤ v.toNat) }

/-- The flags after an addition of three numbers (R150, R151): C is bit 8, V the same-sign rule, Z and N from the result. -/
def sumFlags (a m r : Byte) (t : Nat) (f : Flags) : Flags :=
  nz r { f with c := decide (256 ≤ t), v := decide ((128 ≤ a.toNat ↔ 128 ≤ m.toNat) ∧ ¬(128 ≤ r.toNat ↔ 128 ≤ a.toNat)) }

/-- The flags after a comparison (R153). -/
def compared (r m : Byte) (f : Flags) : Flags :=
  if r.toNat = m.toNat then { f with z := true, c := true, n := false }
  else if r.toNat < m.toNat then { f with z := false, c := false, n := decide (128 ≤ m.toNat) }
  else { f with z := false, c := true, n := decide (128 ≤ m.toNat) }

/-- Result and bit shifted out of a shift, in numbers (R174). -/
def shifted (k : ShiftKind) (m : Byte) (c : Bool) : Byte × Bool :=
  match k with
  | .asl => (BitVec.ofNat 8 (2 * m.toNat), decide (128 ≤ m.toNat))
  | .lsr => (BitVec.ofNat 8 (m.toNat / 2), decide (m.toNat % 2 = 1))
  | .rol => (BitVec.ofNat 8 (2 * m.toNat + c.toNat), decide (128 ≤ m.toNat))
  | .ror => (BitVec.ofNat 8 (m.toNat / 2 + 128 * c.toNat), decide (m.toNat % 2 = 1))

/-- The answer of an instruction that reads an operand and then writes registers: the state `f` makes of the byte and of
the state after the read. -/
def ReadsThen (o : Operand) (s : State) (f : Byte → State → State) (i : Instr) : Prop :=
  exec i s = .next (f (readOperand o s).1 (readOperand o s).2)

/-- The answer of an instruction that reads a byte of memory and writes the result back to the same address. -/
def ModifiesMemory (m : MemOperand) (s : State) (result : Byte → Byte) (flags : Byte → Flags) (i : Instr) : Prop :=
  exec i s = .next
    { busWrite (effAddr m s).1 (result (busRead (effAddr m s).1 (effAddr m s).2).1)
        (busRead (effAddr m s).1 (effAddr m s).2).2 with
      flags := flags (busRead (effAddr m s).1 (effAddr m s).2).1 }

/-- The answer of a shift in either place. -/
def Shifts (k : ShiftKind) (i : Instr) (p : Place) (s : State) : Prop :=
  match p with
  | .acc =>
    exec i s = .next { s with
      a := (shifted k s.a s.flags.c).1
      flags := nz (shifted k s.a s.flags.c).1 { s.flags with c := (shifted k s.a s.flags.c).2 } }
  | .mem m =>
    ModifiesMemory m s (fun v => (shifted k v s.flags.c).1)
      (fun v => nz (shifted k v s.flags.c).1 { s.flags with c := (shifted k v s.flags.c).2 }) i

/-- PC, when the branch is taken, and nothing else (R200). -/
def Branches (cond : Flags → Bool) (i : Instr) (off : Int) : Prop :=
  ∀ s, exec i s = .next { s with pc := if cond s.flags then BitVec.ofInt 16 (s.pc.toNat + off) else s.pc }

/-- The record of a fatal stack condition (R193). -/
def fatal (r : HaltReason) (s : State) : State :=
  { s with
    flags := { s.flags with b := true }
    haltReason := match s.haltReason with
      | .none => r
      | .breakHalt => .breakHalt
      | .stackOverflow => .stackOverflow
      | .stackUnderflow => .stackUnderflow }

/-- The state after a call of a peripheral: the call is with the calls before it, and the device may have made a request
(free values, log 5). -/
def called (c : DeviceCall) (s : State) : State :=
  { s with
    traffic := c :: s.traffic
    nmiPending := s.nmiPending || Config.peripheralAssertsNmi c s.traffic
    irqPending := s.irqPending || Config.peripheralRequestsIrq c s.traffic }

/-- The stack byte address `0x0100 + SP` (R11). -/
def stackByte (sp : Byte) : Word := BitVec.ofNat 16 (256 + sp.toNat)

/-- The address of a byte of a little-endian word. -/
def wordAt (s : State) (a : Word) : Word := wordOf (s.peek (a + 1#16)) (s.peek a)

/-! ### Frames -/

/-- Every register and flag outside the list is unchanged. -/
def Untouched (written : List Tracked) (s t : State) : Prop := ∀ q, q ∉ written → t.tracked q = s.tracked q

/-- `servicing`, the counter, the loop's status and the coming inputs are unchanged. -/
def SpecialsKept (s t : State) : Prop :=
  t.servicing = s.servicing ∧ t.invalidOpcodeCount = s.invalidOpcodeCount ∧ t.exit = s.exit ∧ t.inputs = s.inputs

/-- A pending request and the calls that peripherals have had stay, and with no peripheral installed nothing is requested
and no call is made: the model's form of what a peripheral can do (log 4, log 5). -/
def PendingKept (s t : State) : Prop :=
  (s.nmiPending = true → t.nmiPending = true) ∧ (s.irqPending = true → t.irqPending = true) ∧ s.traffic <:+ t.traffic ∧
  (NoPeripherals s → t.nmiPending = s.nmiPending ∧ t.irqPending = s.irqPending ∧ t.traffic = s.traffic)

/-- The bus is unchanged, and every address reads as before. -/
def MemoryKept (s t : State) : Prop := t.bus = s.bus ∧ ∀ a, t.peek a = s.peek a

/-- Every address outside the list reads as before. -/
def MemoryKeptOutside (stored : List Word) (s t : State) : Prop := ∀ a, a ∉ stored → t.peek a = s.peek a

/-- The frame of an instruction that reads an operand and stores nothing. -/
def ReadFrame (written : List Tracked) (i : Instr) : Prop :=
  ∀ s t, exec i s = .next t →
    Untouched written s t ∧ t.haltReason = s.haltReason ∧ SpecialsKept s t ∧ PendingKept s t ∧ MemoryKept s t

/-- The frame of an instruction that stores one byte at the effective address of its operand. -/
def StoreFrame (written : List Tracked) (i : Instr) (m : MemOperand) : Prop :=
  ∀ s t, exec i s = .next t →
    Untouched written s t ∧ t.haltReason = s.haltReason ∧ SpecialsKept s t ∧ PendingKept s t ∧
    MemoryKeptOutside [(effAddr m s).1] s t

/-- The frame of an instruction that makes no bus access. -/
def RegisterFrame (written : List Tracked) (i : Instr) : Prop :=
  ∀ s t, exec i s = .next t →
    Untouched written s t ∧ t.haltReason = s.haltReason ∧ SpecialsKept s t ∧ t.nmiPending = s.nmiPending ∧
    t.irqPending = s.irqPending ∧ t.traffic = s.traffic ∧ MemoryKept s t

/-- The frame of an instruction that pushes `n` bytes from SP down: B and the halt reason change only at an overflow. -/
def PushFrame (n : Nat) (written : List Tracked) (stored : State → List Word) (i : Instr) : Prop :=
  ∀ s t, exec i s = .next t →
    Untouched (.brk :: written) s t ∧ (n ≤ s.sp.toNat → t.flags.b = s.flags.b ∧ t.haltReason = s.haltReason) ∧
    SpecialsKept s t ∧ PendingKept s t ∧ MemoryKeptOutside (stored s) s t

/-- The frame of an instruction that pulls `n` bytes: B and the halt reason change only at an underflow. -/
def PullFrame (n : Nat) (written : List Tracked) (i : Instr) : Prop :=
  ∀ s t, exec i s = .next t →
    Untouched (.brk :: written) s t ∧
    (s.sp.toNat + n ≤ 255 → t.flags.b = s.flags.b ∧ t.haltReason = s.haltReason) ∧
    SpecialsKept s t ∧ PendingKept s t ∧ MemoryKept s t

/-! ### Several pushes and pulls -/

/-- Push the bytes of a list, the head first. -/
def pushAll : List Byte → State → State
  | [], s => s
  | v :: vs, s => pushAll vs (push v s)

/-- Pull `n` bytes, the first pulled at the head. -/
def pullMany : Nat → State → List Byte × State
  | 0, s => ([], s)
  | n + 1, s =>
    let r := pull s
    let rest := pullMany n r.2
    (r.1 :: rest.1, rest.2)

/-- The instruction an iteration fetches. -/
def fetched (s : State) : Instr := (fetchInstr (takeInput s).2).1

/-- The host neither cancels this iteration nor times its gate wait out. -/
def NotStopped (s : State) : Prop := (takeInput s).1.stop = .keepRunning ∨ (takeInput s).1.stop = .deadline

end Sys2Proof.Claims

open Sys2Proof.Claims


/-- Decoding the bytes of any well-formed instruction gives it back. For every well-formed instruction, with every operand its encoding admits, and any bytes after it, decode of its encoding is the instruction and those bytes. (R70, R72, R73, R74, R75, R76) -/
def Obligations.DecodeReadsBackEncode : Prop :=
  ∀ (i : Instr) (rest : List Byte), i.WellFormed → decode (encode i ++ rest) = .ok (i, rest)

/-- Bytes that decode are the encoding of the instruction they decode to. If bytes decode to an instruction and a rest, the instruction is well formed and its encoding followed by the rest is those bytes, so no bit of an instruction is dropped and no bytes have two readings. (R70, R71, R72, R73, R76) -/
def Obligations.EncodeReadsBackDecode : Prop :=
  ∀ (bytes rest : List Byte) (i : Instr), decode bytes = .ok (i, rest) → i.WellFormed ∧ encode i ++ rest = bytes

/-- Words written out from the spec decode to the instructions they stand for. One word of every family: AD 34 12 is LDA $1234, 69 50 is ADC #$50, 2C 00 30 is BIT $3000, 76 0F is ROR $0F,X, 48 is PHA, D0 FB is BNE with displacement -5, 6C 20 01 is JMP ($0120), 00 is BRK, FF is unmapped. (R72, R73, R74, R75, 95_test_vectors.md 4.2) -/
def Obligations.SampleWordsDecode : Prop :=
  decode [0xAD#8, 0x34#8, 0x12#8] = .ok (.ldaAbs 0x1234#16, []) ∧
  decode [0x69#8, 0x50#8] = .ok (.adcImm 0x50#8, []) ∧
  decode [0x2C#8, 0x00#8, 0x30#8] = .ok (.bitAbs 0x3000#16, []) ∧
  decode [0x76#8, 0x0F#8] = .ok (.rorZpx 0x0F#8, []) ∧
  decode [0x48#8] = .ok (.pha, []) ∧
  decode [0xD0#8, 0xFB#8] = .ok (.bne (-5), []) ∧
  decode [0x6C#8, 0x20#8, 0x01#8] = .ok (.jmpInd 0x0120#16, []) ∧
  decode [0x00#8] = .ok (.brk, []) ∧
  decode [0xFF#8] = .ok (.unmappedFF, [])

/-- Every opcode byte decodes, and only a missing operand byte is refused. A text of an opcode byte and a rest decodes exactly when the rest holds the operand bytes that the opcode alone calls for; the empty text has no opcode. (R71, R76) -/
def Obligations.DecodeRefusesOnlyShortText : Prop :=
  decode [] = .error .noOpcode ∧
  ∀ (opcode : Byte) (rest : List Byte),
    (∃ r, decode (opcode :: rest) = .ok r) ↔ (formOf opcode).length ≤ rest.length + 1

/-- The packed flag byte: one flag per bit, bit 5 always 1, unpack its inverse. pack puts N V 1 B D I Z C in bits 7 to 0; unpack reads the seven flags and ignores bit 5; unpack of pack is the identity; pack of unpack gives the byte with bit 5 set. (R14, R15) -/
def Obligations.PackedFlagByteLayout : Prop :=
  (∀ f : Flags, f.pack.getLsbD 7 = f.n ∧ f.pack.getLsbD 6 = f.v ∧ f.pack.getLsbD 5 = true ∧ f.pack.getLsbD 4 = f.b ∧
    f.pack.getLsbD 3 = f.d ∧ f.pack.getLsbD 2 = f.i ∧ f.pack.getLsbD 1 = f.z ∧ f.pack.getLsbD 0 = f.c) ∧
  (∀ b : Byte, Flags.unpack b =
    { n := b.getLsbD 7, v := b.getLsbD 6, b := b.getLsbD 4, d := b.getLsbD 3, i := b.getLsbD 2, z := b.getLsbD 1,
      c := b.getLsbD 0 }) ∧
  (∀ f : Flags, Flags.unpack f.pack = f) ∧
  ∀ b : Byte, (Flags.unpack b).pack = b ||| 0x20#8

/-- SetNZ writes Z and N from the byte and no other flag. Z becomes 1 iff the byte is 0, N becomes its bit 7 (1 iff at least 128); the other flags stay; Z and N are never both 1. (R130) -/
def Obligations.SetNZRule : Prop :=
  ∀ (v : Byte) (f : Flags), setNZ v f = nz v f ∧ ¬((setNZ v f).z = true ∧ (setNZ v f).n = true)

/-- BusRead: 0 from an unowned slot or an owner that cannot read, else the owner at the relativized address. An unowned or unreadable slot reads 0 and nothing changes; a RAM or ROM gives the byte at address minus base and nothing changes; a read never moves the bus. A peripheral has the call dev.read(address minus base) added to the calls it has had, and the byte is a free value of that call and of the calls before it, so two offsets or two devices need not read alike (log 4, the model's choice of form: the spec gives only the contract); whether it requests an interrupt is a free value too (log 5). (R5, R40, R43, R51, 10_state.md R21, log 4, log 5) -/
def Obligations.BusReadRouting : Prop :=
  ∀ (s : State) (a : Word),
    (s.bus.owner a = none → busRead a s = (0#8, s)) ∧
    (∀ d, s.bus.owner a = some d → d.canRead = false → busRead a s = (0#8, s)) ∧
    (∀ d, s.bus.owner a = some d → d.canRead = true → d.isStorage = true →
      d.base ≤ a.toNat ∧ a.toNat - d.base < d.size ∧ busRead a s = (d.load (a.toNat - d.base), s)) ∧
    (∀ d n, s.bus.owner a = some d → d.canRead = true → d.kind = .peripheral n →
      d.base ≤ a.toNat ∧ a.toNat - d.base < d.size ∧
      let c : DeviceCall := { device := n, offset := a.toNat - d.base, action := .read }
      busRead a s = (Config.peripheralByte c s.traffic, called c s)) ∧
    (busRead a s).2.bus = s.bus

/-- BusWrite: the watermark always, the byte only where the owner can write. The watermark becomes the minimum and maximum with the address; an unowned slot or an owner that cannot write keeps every device as it was; in a writable RAM (or a ROM in burn mode) the byte is read back; every other address reads as before. A writable peripheral has the call dev.write(address minus base, byte) added to the calls it has had and may request an interrupt (log 4 and log 5, the model's form); in every other case nothing but the bus changes. (R5, R40, R44, R45, R58, log 4, log 5) -/
def Obligations.BusWriteRouting : Prop :=
  ∀ (s : State) (a : Word) (v : Byte), BusOk s →
    (busWrite a v s).bus.wmLow.toNat = min s.bus.wmLow.toNat a.toNat ∧
    (busWrite a v s).bus.wmHigh.toNat = max s.bus.wmHigh.toNat a.toNat ∧
    (s.bus.owner a = none → (busWrite a v s).bus.devices = s.bus.devices) ∧
    (∀ d, s.bus.owner a = some d → d.canWrite = false → (busWrite a v s).bus.devices = s.bus.devices) ∧
    (RamAt s a → busRead a (busWrite a v s) = (v, busWrite a v s)) ∧
    (∀ a', a' ≠ a → (busWrite a v s).peek a' = s.peek a') ∧
    (∀ d n, s.bus.owner a = some d → d.canWrite = true → d.kind = .peripheral n →
      a.toNat - d.base < d.size ∧ (busWrite a v s).bus.devices = s.bus.devices ∧
      busWrite a v s = called { device := n, offset := a.toNat - d.base, action := .write v }
        { s with bus := (busWrite a v s).bus }) ∧
    ((∀ d, s.bus.owner a = some d → d.canWrite = true → d.isStorage = true) →
      busWrite a v s = { s with bus := (busWrite a v s).bus })

/-- Words are two byte accesses, low byte first; a fetch advances PC by one per byte. A word read reads the low byte at the address and then the high byte at the next address modulo 65536; a word write writes them in that order; Fetch8 reads at PC and advances PC by 1, Fetch16 fetches the low byte and then the high byte. (R46, R47, R94, R110) -/
def Obligations.WordsAndFetchesAreLittleEndian : Prop :=
  (∀ (s : State) (a : Word),
    readWord a s = (wordOf (busRead (a + 1#16) (busRead a s).2).1 (busRead a s).1, (busRead (a + 1#16) (busRead a s).2).2)) ∧
  (∀ (s : State) (a w : Word), writeWord a w s = busWrite (a + 1#16) (highByte w) (busWrite a (lowByte w) s)) ∧
  (∀ hi lo : Byte, (wordOf hi lo).toNat = 256 * hi.toNat + lo.toNat ∧ lowByte (wordOf hi lo) = lo ∧
    highByte (wordOf hi lo) = hi) ∧
  (∀ s : State, fetch8 s = ((busRead s.pc s).1, { (busRead s.pc s).2 with pc := s.pc + 1#16 })) ∧
  ∀ s : State, fetch16 s =
    (wordOf (fetch8 (fetch8 s).2).1 (fetch8 s).1, (fetch8 (fetch8 s).2).2) ∧ (fetch16 s).2.pc = s.pc + 2#16

/-- The effective address of every memory mode and the reads it makes. Zero-page forms stay below 256 (the sums modulo 256), absolute forms add the index modulo 65536, the pointer forms read a word (its high byte at the next address of the whole space), indirect-indexed adds Y to it; an immediate operand is its byte, any other is one bus read at the effective address after the pointer reads. (R113, R114, R115, R116, R117, R118, R119, R120, R121, R122, R124) -/
def Obligations.EffectiveAddresses : Prop :=
  ∀ (s : State) (ll : Byte) (w : Word),
    ((effAddr (.zp ll) s).1.toNat = ll.toNat ∧ (effAddr (.zp ll) s).2 = s) ∧
    ((effAddr (.zpx ll) s).1.toNat = (ll.toNat + s.x.toNat) % 256 ∧ (effAddr (.zpx ll) s).2 = s) ∧
    ((effAddr (.zpy ll) s).1.toNat = (ll.toNat + s.y.toNat) % 256 ∧ (effAddr (.zpy ll) s).2 = s) ∧
    effAddr (.abs w) s = (w, s) ∧
    ((effAddr (.absx w) s).1.toNat = (w.toNat + s.x.toNat) % 65536 ∧ (effAddr (.absx w) s).2 = s) ∧
    ((effAddr (.absy w) s).1.toNat = (w.toNat + s.y.toNat) % 65536 ∧ (effAddr (.absy w) s).2 = s) ∧
    effAddr (.ind w) s = readWord w s ∧
    effAddr (.indx ll) s = readWord (BitVec.ofNat 16 ((ll.toNat + s.x.toNat) % 256)) s ∧
    ((effAddr (.indy ll) s).1.toNat = ((readWord (BitVec.ofNat 16 ll.toNat) s).1.toNat + s.y.toNat) % 65536 ∧
      (effAddr (.indy ll) s).2 = (readWord (BitVec.ofNat 16 ll.toNat) s).2) ∧
    (∀ v : Byte, readOperand (.imm v) s = (v, s)) ∧
    ∀ m : MemOperand, readOperand (.mem m) s = busRead (effAddr m s).1 (effAddr m s).2

/-- Computing and reading an operand changes nothing the machine can name. After an effective address and the operand read, the state is the one before but for what a peripheral may have done: calls of it are added (log 4), pending requests can only appear (log 5, a free value), and with no peripheral installed the state is unchanged. (R51, R124, R125, 20_memory.md R40, log 4, log 5) -/
def Obligations.OperandReadsLeaveNoTrace : Prop :=
  ∀ (s : State) (o : Operand),
    (∃ p q n, (readOperand o s).2 = { s with nmiPending := p, irqPending := q, traffic := n } ∧
      (s.nmiPending = true → p = true) ∧ (s.irqPending = true → q = true) ∧ s.traffic <:+ n) ∧
    (NoPeripherals s → (readOperand o s).2 = s)

/-- LDA, LDX, LDY in every form load the operand and set Z and N from it. Each form answers the state after the operand read with the register set to the byte and Z and N set from it; every other flag is as before. (R131, R132, R133) -/
def Obligations.LoadsLoadTheRegister : Prop :=
  (LdaForms fun i o => ∀ s, ReadsThen o s (fun m u => { u with a := m, flags := nz m s.flags }) i) ∧
  (LdxForms fun i o => ∀ s, ReadsThen o s (fun m u => { u with x := m, flags := nz m s.flags }) i) ∧
  (LdyForms fun i o => ∀ s, ReadsThen o s (fun m u => { u with y := m, flags := nz m s.flags }) i)

/-- STA, STX, STY in every form make one bus write of the register and write no flag. Each form answers the state after one BusWrite of the register at the effective address; a BusWrite writes no register and no flag. (R134, R135, R136) -/
def Obligations.StoresWriteTheRegister : Prop :=
  (StaForms fun i m => ∀ s, exec i s = .next (busWrite (effAddr m s).1 s.a (effAddr m s).2)) ∧
  (StxForms fun i m => ∀ s, exec i s = .next (busWrite (effAddr m s).1 s.x (effAddr m s).2)) ∧
  (StyForms fun i m => ∀ s, exec i s = .next (busWrite (effAddr m s).1 s.y (effAddr m s).2)) ∧
  ∀ s m v q, (busWrite (effAddr m s).1 v (effAddr m s).2).tracked q = s.tracked q

/-- TAX TAY TXA TYA TSX TXS copy a register and set Z and N from it. Each transfer writes its destination and Z and N, TXS included, and nothing else; no bus access. (R137, R138, R139, R140, R141, R142) -/
def Obligations.TransfersCopyAndSetNZ : Prop :=
  ImpliedForm 0xAA#8 .tax (fun i => ∀ s, exec i s = .next { s with x := s.a, flags := nz s.a s.flags }) ∧
  ImpliedForm 0xA8#8 .tay (fun i => ∀ s, exec i s = .next { s with y := s.a, flags := nz s.a s.flags }) ∧
  ImpliedForm 0x8A#8 .txa (fun i => ∀ s, exec i s = .next { s with a := s.x, flags := nz s.x s.flags }) ∧
  ImpliedForm 0x98#8 .tya (fun i => ∀ s, exec i s = .next { s with a := s.y, flags := nz s.y s.flags }) ∧
  ImpliedForm 0xBA#8 .tsx (fun i => ∀ s, exec i s = .next { s with x := s.sp, flags := nz s.sp s.flags }) ∧
  ImpliedForm 0x9A#8 .txs (fun i => ∀ s, exec i s = .next { s with sp := s.x, flags := nz s.x s.flags })

/-- ADC in every form: the 9-bit sum A + m + C, binary whatever D is. The result is the sum modulo 256; C is its bit 8; V is set iff A and m share their sign and the result differs; Z and N come from the result; I, D, B stay. (R150, R151) -/
def Obligations.AdcAddsWithCarry : Prop :=
  AdcForms fun i o => ∀ s, ReadsThen o s (fun m u =>
    { u with
      a := BitVec.ofNat 8 (s.a.toNat + m.toNat + s.flags.c.toNat)
      flags := sumFlags s.a m (BitVec.ofNat 8 (s.a.toNat + m.toNat + s.flags.c.toNat))
        (s.a.toNat + m.toNat + s.flags.c.toNat) s.flags }) i

/-- SBC in every form: A - m - (1 - C), C means no borrow, V is signed overflow. The result is A - m - (1 - C) modulo 256; C is 1 iff that integer is not negative; V is 1 iff the signed difference is outside -128..127; Z and N come from the result; I, D, B stay. (R152) -/
def Obligations.SbcSubtractsWithBorrow : Prop :=
  SbcForms fun i o => ∀ s, ReadsThen o s (fun m u =>
    { u with
      a := BitVec.ofInt 8 ((s.a.toNat : Int) - m.toNat - (1 - s.flags.c.toNat))
      flags := nz (BitVec.ofInt 8 ((s.a.toNat : Int) - m.toNat - (1 - s.flags.c.toNat)))
        { s.flags with
          c := decide (0 ≤ (s.a.toNat : Int) - m.toNat - (1 - s.flags.c.toNat))
          v := decide (¬(-128 ≤ s.a.toInt - m.toInt - (1 - s.flags.c.toNat) ∧
            s.a.toInt - m.toInt - (1 - s.flags.c.toNat) ≤ 127)) } }) i

/-- CMP, CPX, CPY in every form: unsigned, N is the operand's bit 7, 0 when equal. Each form changes Z, C and N only: equal gives Z=1 C=1 N=0; a greater operand C=0, a smaller one C=1, both with Z=0 and N the operand's bit 7. (R153, R154, R155, R156) -/
def Obligations.ComparesSetZCN : Prop :=
  (CmpForms fun i o => ∀ s, ReadsThen o s (fun m u => { u with flags := compared s.a m s.flags }) i) ∧
  (CpxForms fun i o => ∀ s, ReadsThen o s (fun m u => { u with flags := compared s.x m s.flags }) i) ∧
  (CpyForms fun i o => ∀ s, ReadsThen o s (fun m u => { u with flags := compared s.y m s.flags }) i)

/-- INC DEC INX INY DEX DEY: one more or one less modulo 256, Z and N from the result. INC and DEC read a byte and write the result back to the same address; the register forms write X or Y; C, V, D, I, B stay. (R157, R158, R159, R160, R161, R162) -/
def Obligations.IncrementsAndDecrements : Prop :=
  (IncForms fun i m => ∀ s, ModifiesMemory m s (fun v => BitVec.ofNat 8 (v.toNat + 1))
    (fun v => nz (BitVec.ofNat 8 (v.toNat + 1)) s.flags) i) ∧
  (DecForms fun i m => ∀ s, ModifiesMemory m s (fun v => BitVec.ofNat 8 (v.toNat + 255))
    (fun v => nz (BitVec.ofNat 8 (v.toNat + 255)) s.flags) i) ∧
  ImpliedForm 0xE8#8 .inx (fun i => ∀ s, exec i s =
    .next { s with x := BitVec.ofNat 8 (s.x.toNat + 1), flags := nz (BitVec.ofNat 8 (s.x.toNat + 1)) s.flags }) ∧
  ImpliedForm 0xC8#8 .iny (fun i => ∀ s, exec i s =
    .next { s with y := BitVec.ofNat 8 (s.y.toNat + 1), flags := nz (BitVec.ofNat 8 (s.y.toNat + 1)) s.flags }) ∧
  ImpliedForm 0xCA#8 .dex (fun i => ∀ s, exec i s =
    .next { s with x := BitVec.ofNat 8 (s.x.toNat + 255), flags := nz (BitVec.ofNat 8 (s.x.toNat + 255)) s.flags }) ∧
  ImpliedForm 0x88#8 .dey (fun i => ∀ s, exec i s =
    .next { s with y := BitVec.ofNat 8 (s.y.toNat + 255), flags := nz (BitVec.ofNat 8 (s.y.toNat + 255)) s.flags })

/-- AND, ORA, EOR write A, Z and N; BIT writes V, N, Z and leaves A. Each logic form combines A with the operand bit by bit and sets Z and N from the result; BIT takes V and N from bits 6 and 7 of the operand and Z from operand AND A. (R170, R171, R172, R173) -/
def Obligations.LogicAndBitTest : Prop :=
  (AndForms fun i o => ∀ s, ReadsThen o s (fun m u => { u with a := s.a &&& m, flags := nz (s.a &&& m) s.flags }) i) ∧
  (OraForms fun i o => ∀ s, ReadsThen o s (fun m u => { u with a := s.a ||| m, flags := nz (s.a ||| m) s.flags }) i) ∧
  (EorForms fun i o => ∀ s, ReadsThen o s (fun m u => { u with a := s.a ^^^ m, flags := nz (s.a ^^^ m) s.flags }) i) ∧
  (BitForms fun i m => ∀ s, ReadsThen (.mem m) s (fun v u =>
    { u with flags := { s.flags with v := v.getLsbD 6, n := v.getLsbD 7, z := decide (v &&& s.a = 0#8) } }) i)

/-- ASL LSR ROL ROR on A or a memory byte: C is the bit shifted out, rotates shift the old C in. In numbers: ASL doubles, LSR halves, ROL doubles and adds the old C, ROR halves and adds 128 times the old C, all modulo 256; C becomes the bit that left, Z and N come from the result, V D I B stay; in memory one read and one write at the same address. (R174, R175, R176, R177, R178) -/
def Obligations.ShiftsAndRotates : Prop :=
  (∀ s, AslForms fun i p => Shifts .asl i p s) ∧
  (∀ s, LsrForms fun i p => Shifts .lsr i p s) ∧
  (∀ s, RolForms fun i p => Shifts .rol i p s) ∧
  (∀ s, RorForms fun i p => Shifts .ror i p s)

/-- Push writes at 0x0100 + SP then steps SP down; Pull steps SP up then reads; the wraps are fatal. A push writes 0x0100 + SP and leaves SP - 1 modulo 256, at SP = 0 with B set and StackOverflow recorded if no cause was; a pull leaves SP + 1 modulo 256 and reads there, at SP = 0xFF with B set and StackUnderflow recorded if no cause was. (R191, R192, R193) -/
def Obligations.PushAndPullDiscipline : Prop :=
  (∀ (v : Byte) (s : State), s.sp ≠ 0x00#8 →
    push v s = { busWrite (stackByte s.sp) v s with sp := BitVec.ofNat 8 (s.sp.toNat - 1) }) ∧
  (∀ (v : Byte) (s : State), s.sp = 0x00#8 →
    push v s = fatal .stackOverflow { busWrite 0x0100#16 v s with sp := 0xFF#8 }) ∧
  (∀ s : State, s.sp ≠ 0xFF#8 →
    pull s = busRead (stackByte (BitVec.ofNat 8 (s.sp.toNat + 1))) { s with sp := BitVec.ofNat 8 (s.sp.toNat + 1) }) ∧
  ∀ s : State, s.sp = 0xFF#8 →
    pull s = busRead 0x0100#16 (fatal .stackUnderflow { s with sp := 0x00#8 })

/-- PHA PHP push A and the packed flags; PLA PLP pull A and the flags. PHA pushes A, PHP the packed byte as it stands; PLA sets A, Z and N from the pulled byte; PLP loads all seven flags, and B stays set if the pull underflowed. (R194, R195, R196, R197) -/
def Obligations.StackInstructions : Prop :=
  ImpliedForm 0x48#8 .pha (fun i => ∀ s, exec i s = .next (push s.a s)) ∧
  ImpliedForm 0x08#8 .php (fun i => ∀ s, exec i s = .next (push s.flags.pack s)) ∧
  ImpliedForm 0x68#8 .pla (fun i => ∀ s, exec i s =
    .next { (pull s).2 with a := (pull s).1, flags := nz (pull s).1 (pull s).2.flags }) ∧
  ImpliedForm 0x28#8 .plp (fun i => ∀ s, exec i s =
    .next { (pull s).2 with flags := { Flags.unpack (pull s).1 with b := (pull s).1.getLsbD 4 || decide (s.sp = 0xFF#8) } })

/-- The eight branches: PC plus the signed displacement when the flag has the value, else PC. Each branch adds its displacement modulo 65536 to the PC of the next instruction when its condition holds and changes nothing else in either case; the operand byte is read as a signed value. (R200, R201, R202, R203, R204, R205, R206, R207, R208, R123) -/
def Obligations.BranchesTestOneFlag : Prop :=
  (∀ b : Byte, signed8 b = if b.toNat < 128 then (b.toNat : Int) else (b.toNat : Int) - 256) ∧
  RelForm 0x10#8 .bpl (Branches fun f => !f.n) ∧
  RelForm 0x30#8 .bmi (Branches fun f => f.n) ∧
  RelForm 0x50#8 .bvc (Branches fun f => !f.v) ∧
  RelForm 0x70#8 .bvs (Branches fun f => f.v) ∧
  RelForm 0x90#8 .bcc (Branches fun f => !f.c) ∧
  RelForm 0xB0#8 .bcs (Branches fun f => f.c) ∧
  RelForm 0xD0#8 .bne (Branches fun f => !f.z) ∧
  RelForm 0xF0#8 .beq (Branches fun f => f.z)

/-- JMP loads PC with its target; JSR pushes the address of its last byte; RTS pulls and adds one. JMP absolute and indirect set PC to the effective address; JSR pushes PC - 1 high byte first and jumps; RTS pulls low then high and resumes one after. (R209, R210, R211) -/
def Obligations.JumpsCallsAndReturns : Prop :=
  (JmpForms fun i m => ∀ s, exec i s = .next { (effAddr m s).2 with pc := (effAddr m s).1 }) ∧
  (∀ w, decode [0x20#8, lowByte w, highByte w] = .ok (.jsr w, []) ∧ ∀ s, exec (.jsr w) s =
    .next { push (lowByte (s.pc - 1#16)) (push (highByte (s.pc - 1#16)) s) with pc := w }) ∧
  ImpliedForm 0x60#8 .rts (fun i => ∀ s, exec i s =
    .next { (pull (pull s).2).2 with pc := wordOf (pull (pull s).2).1 (pull s).1 + 1#16 })

/-- CLC SEC CLI SEI CLD SED CLV change exactly one flag and nothing else. Each flag instruction answers the same state with its one flag cleared or set: CLC and SEC write C (R220, R221), CLI and SEI write I (R222, R223), CLD and SED write D (R224, R225), CLV clears V (R226). That a pending IRQ can be taken at the boundary after CLI and is held after SEI stands in InterruptTakenWhen. (47_flags_nop_brk_rti.md 1, R220, R221, R222, R223, R224, R225, R226) -/
def Obligations.FlagInstructions : Prop :=
  ImpliedForm 0x18#8 .clc (fun i => ∀ s, exec i s = .next { s with flags := { s.flags with c := false } }) ∧
  ImpliedForm 0x38#8 .sec (fun i => ∀ s, exec i s = .next { s with flags := { s.flags with c := true } }) ∧
  ImpliedForm 0x58#8 .cli (fun i => ∀ s, exec i s = .next { s with flags := { s.flags with i := false } }) ∧
  ImpliedForm 0x78#8 .sei (fun i => ∀ s, exec i s = .next { s with flags := { s.flags with i := true } }) ∧
  ImpliedForm 0xD8#8 .cld (fun i => ∀ s, exec i s = .next { s with flags := { s.flags with d := false } }) ∧
  ImpliedForm 0xF8#8 .sed (fun i => ∀ s, exec i s = .next { s with flags := { s.flags with d := true } }) ∧
  ImpliedForm 0xB8#8 .clv (fun i => ∀ s, exec i s = .next { s with flags := { s.flags with v := false } })

/-- NOP changes nothing; BRK sets B and records Break if no cause was recorded. After its fetch NOP answers the same state (R227); the wall-clock delay it starts is left out of this step: log 11 (DEDUCED) has it as denied fetches among the inputs of the iterations after it. BRK (R228) sets B and sets the halt reason to Break when it is None, and does nothing else: no push, no vector. (R227, R228, log 11) -/
def Obligations.NopAndBrk : Prop :=
  ImpliedForm 0xEA#8 .nop (fun i => ∀ s, exec i s = .next s) ∧
  ImpliedForm 0x00#8 .brk (fun i => ∀ s, exec i s = .next (fatal .breakHalt s))

/-- RTI pulls the flags, then PC low and high, clears I whatever was pulled, ends servicing. B is the pulled bit 4, or 1 if a pull underflowed; N V D Z C are the pulled bits; PC is the pulled word without adjustment. (R229) -/
def Obligations.RtiPullsFlagsThenPc : Prop :=
  ImpliedForm 0x40#8 .rti (fun i => ∀ s,
    let p := pull s
    let f := Flags.unpack p.1
    let lo := pull { p.2 with flags := { f with b := f.b || decide (s.sp = 0xFF#8) } }
    let hi := pull lo.2
    exec i s = .next { hi.2 with
      pc := wordOf hi.1 lo.1
      flags := { hi.2.flags with i := false }
      servicing := false })

/-- The 105 unmapped bytes are counted one-byte no-ops, and no other byte decodes to one. Each listed byte decodes to its constructor with no operand byte, and executing it adds one to the invalid opcode count and changes nothing else; a byte outside the list decodes to a mapped instruction. (R75, R230) -/
def Obligations.UnmappedOpcodesAreCounted : Prop :=
  unmappedRows.length = 105 ∧
  (∀ p ∈ unmappedRows, decode [p.1] = .ok (p.2, []) ∧
    ∀ s, exec p.2 s = .next { s with invalidOpcodeCount := s.invalidOpcodeCount + 1 }) ∧
  ∀ (b : Byte) (rest rest' : List Byte) (i : Instr), decode (b :: rest) = .ok (i, rest') →
    (isUnmapped i = true ↔ b ∈ unmappedRows.map (·.1))

/-- NMI and IRQ entry: push PC high, PC low, P; the IRQ sets I after the push; PC from the vector; servicing. The entry pushes the two halves of PC and the packed flags as they stand, sets I for the IRQ only, loads PC from 0xFFFA or 0xFFFE (low byte read first), sets servicing and clears its own pending flag; A, X and Y stay and SP goes down by 3 modulo 256. (R246, R247) -/
def Obligations.InterruptEntrySequences : Prop :=
  (∀ s,
    let p := push (lowByte s.pc) (push (highByte s.pc) s)
    let q := push p.flags.pack p
    let lo := busRead 0xFFFA#16 q
    let hi := busRead 0xFFFB#16 lo.2
    interruptEntry .nmi s = { hi.2 with pc := wordOf hi.1 lo.1, servicing := true, nmiPending := false }) ∧
  (∀ s,
    let p := push (lowByte s.pc) (push (highByte s.pc) s)
    let q := push p.flags.pack p
    let lo := busRead 0xFFFE#16 { q with flags := { q.flags with i := true } }
    let hi := busRead 0xFFFF#16 lo.2
    interruptEntry .irq s = { hi.2 with pc := wordOf hi.1 lo.1, servicing := true, irqPending := false }) ∧
  ∀ k s, (interruptEntry k s).a = s.a ∧ (interruptEntry k s).x = s.x ∧ (interruptEntry k s).y = s.y ∧
    (interruptEntry k s).sp = s.sp - 3#8

/-- Which interrupt is taken at a boundary: NMI before IRQ, neither while servicing, IRQ only with I = 0. The NMI is taken iff it is pending and nothing is in service; the IRQ iff the NMI is not taken, it is pending, nothing is in service and I is 0; while servicing none is. (R245, R249) -/
def Obligations.InterruptTakenWhen : Prop :=
  ∀ s,
    (interruptToTake s = some .nmi ↔ s.nmiPending = true ∧ s.servicing = false) ∧
    (interruptToTake s = some .irq ↔
      interruptToTake s ≠ some .nmi ∧ s.irqPending = true ∧ s.servicing = false ∧ s.flags.i = false) ∧
    (s.servicing = true → interruptToTake s = none)

/-- A step runs the instruction that the bytes at PC decode to. When the loop runs, the host does not stop it, no interrupt is to be taken, the fetch is permitted and the instruction's own bytes at PC are in no peripheral: if they decode to i, the step is exec of i with PC past the instruction, followed by the tests that end the loop. (R90, R94, R95, R110, R76) -/
def Obligations.StepRunsDecodedInstruction : Prop :=
  ∀ (s s1 : State) (i : Instr) (rest : List Byte),
    s.exit = none → NotStopped s → (takeInput s).1.fetchPermit = true → s1 = (takeInput s).2 →
    interruptToTake s1 = none →
    decode [s1.peek s1.pc, s1.peek (s1.pc + 1#16), s1.peek (s1.pc + 2#16)] = .ok (i, rest) →
    (∀ k < i.length, Plain s1 (s1.pc + BitVec.ofNat 16 k)) →
    step s = match exec i { s1 with pc := s1.pc + BitVec.ofNat 16 i.length } with
      | .next u => .next (endIteration s1.flags.b (takeInput s).1.stop u)
      | .fault f => .fault f
      | .refused r => .refused r

/-- An iteration with an interrupt to take enters it and fetches nothing, whether or not the fetch is permitted. When the loop runs and is not stopped and an interrupt is to be taken, the step is its entry followed by the tests that end the loop. (R90, R91, R245, R248) -/
def Obligations.StepEntersInterruptWithoutPermit : Prop :=
  ∀ (s : State) (k : InterruptKind), s.exit = none → NotStopped s → interruptToTake (takeInput s).2 = some k →
    step s = .next (endIteration (takeInput s).2.flags.b (takeInput s).1.stop (interruptEntry k (takeInput s).2))

/-- An iteration takes its input, whose requests arrive; denied it does nothing more, stopped it only leaves the loop; a loop that was left stays as it is. Taking the input answers the head of the list and the state without it, each pending flag set if it was set or its request is made (R17, R243, R244); past the end of the list the input is quiet and the state the same. With no interrupt to take and the fetch denied nothing more happens (the deadline is noticed, R97). A cancellation or gate timeout records how the loop was left and nothing more. The model's choices or deductions here: one input an iteration, quiet past the end (log 6); the requests of an input arrive before the checks (log 7, DEDUCED), of a stopping input too; a gate timeout is seen before everything else (log 10, DEDUCED); a step of a loop that is not running changes nothing (log 8). (R17, R91, R97, R98, R102, R243, R244, log 6, log 7, log 8, log 10) -/
def Obligations.StepIdlesOrStops : Prop :=
  (∀ s h rest, s.inputs = h :: rest → takeInput s = (h, { s with
    inputs := rest, nmiPending := s.nmiPending || h.assertNmi, irqPending := s.irqPending || h.requestIrq })) ∧
  (∀ s, s.inputs = [] → takeInput s =
    ({ fetchPermit := true, assertNmi := false, requestIrq := false, stop := .keepRunning }, s)) ∧
  (∀ s, s.exit = none → (takeInput s).1.stop = .keepRunning → interruptToTake (takeInput s).2 = none →
    (takeInput s).1.fetchPermit = false → step s = .next (takeInput s).2) ∧
  (∀ s, s.exit = none → (takeInput s).1.stop = .deadline → interruptToTake (takeInput s).2 = none →
    (takeInput s).1.fetchPermit = false → step s = .next { (takeInput s).2 with exit := some .deadline }) ∧
  (∀ s, s.exit = none → (takeInput s).1.stop = .cancellation →
    step s = .next { (takeInput s).2 with exit := some .cancelled }) ∧
  (∀ s, s.exit = none → (takeInput s).1.stop = .gateTimeout →
    step s = .next { (takeInput s).2 with exit := some .gateTimeout }) ∧
  ∀ s e, s.exit = some e → step s = .next s

/-- The loop ends normally exactly when B went from 0 to 1 in the iteration, else by the deadline if it elapsed. For every iteration the host does not stop: afterwards the loop has been left as halted iff B was 0 and is 1, as deadline iff not that and the deadline elapsed, and runs on otherwise. (R96, R97, R90) -/
def Obligations.LoopEndsWhenBreakBecomesSet : Prop :=
  ∀ s t, s.exit = none → NotStopped s → step s = .next t →
    (t.exit = some .halted ↔ s.flags.b = false ∧ t.flags.b = true) ∧
    (t.exit = some .deadline ↔ ¬(s.flags.b = false ∧ t.flags.b = true) ∧ (takeInput s).1.stop = .deadline) ∧
    (t.exit = none ↔ ¬(s.flags.b = false ∧ t.flags.b = true) ∧ (takeInput s).1.stop = .keepRunning)

/-- Every step of every state answers a next state: no fault, no refusal, no trap that aborts an instruction. Whatever the devices, the memory, the flags and the bytes at PC, one iteration completes. What the next state is stands in StepRunsDecodedInstruction, StepEntersInterruptWithoutPermit and StepIdlesOrStops. (R100, R242, R43, R44, R230) -/
def Obligations.StepAlwaysCompletes : Prop :=
  ∀ s : State, ∃ t, step s = .next t

/-- Every step keeps the bus in canonical form. If every device lies inside the address space (R41) and its storage is strictly rising, inside its size and lists no unwritten value, the same holds after any step. The form of the storage is the model's choice (log 16), and so is the value that an unlisted byte reads as (log 2). (R41, R59, R44, 20_memory.md R40, log 2, log 16) -/
def Obligations.StepKeepsBusCanonical : Prop :=
  ∀ s t : State, BusOk s → step s = .next t → BusOk t

/-- The reset state, and what an engine reset leaves and sets. State.reset has the values of the spec's table, nothing listed in memory, and its bus is canonical; an engine reset of any state whose vector slots reach no peripheral sets exactly those registers, loads PC with the vector's word and leaves the bus, the inputs and the loop's status; engine reset of State.reset is State.reset. The device map, the unwritten byte, the canonical form and the list of the calls of peripherals, empty, are the model's choices (log 1, log 2, log 16, log 4). (R26, R270, R271, R272, log 1, log 2, log 4, log 16) -/
def Obligations.ResetState : Prop :=
  BusOk State.reset ∧ (∀ d ∈ State.reset.bus.devices, d.cells = []) ∧
  State.reset.sp = 0xFF#8 ∧ State.reset.a = 0x00#8 ∧ State.reset.x = 0x00#8 ∧ State.reset.y = 0x00#8 ∧
  State.reset.flags.pack = 0x20#8 ∧ State.reset.nmiPending = false ∧ State.reset.irqPending = false ∧
  State.reset.servicing = false ∧ State.reset.haltReason = .none ∧ State.reset.invalidOpcodeCount = 0 ∧
  State.reset.pc = wordAt State.reset 0xFFFC#16 ∧
  State.reset.bus.wmLow = 0xFFFF#16 ∧ State.reset.bus.wmHigh = 0x0000#16 ∧
  State.reset.traffic = [] ∧ TrafficOk State.reset ∧ engineReset State.reset = State.reset ∧
  ∀ s, Plain s 0xFFFC#16 → Plain s 0xFFFD#16 →
    engineReset s = { s with
      pc := wordAt s 0xFFFC#16, sp := 0xFF#8, a := 0x00#8, x := 0x00#8, y := 0x00#8
      flags := { c := false, z := false, i := false, d := false, b := false, v := false, n := false }
      nmiPending := false, irqPending := false, servicing := false, haltReason := .none, invalidOpcodeCount := 0 }

/-- No step changes which device owns which slot, nor any device's rights. The devices before and after any step are the same ones in the same order but for their stored bytes: the table is configuration while the Engine runs. (R21, R41, R42) -/
def Obligations.StepKeepsOwnerTable : Prop :=
  ∀ s t : State, step s = .next t → SameOwners s t

/-- No step changes a byte of a device that cannot write. A ROM not in burn mode holds after any step exactly the bytes it held before. (R44, R58) -/
def Obligations.StepKeepsReadOnlyContents : Prop :=
  ∀ s t : State, step s = .next t → KeepsReadOnly s t

/-- No step narrows the write watermark. The lowest address written never rises and the highest never falls, whatever the step. (R45, R22) -/
def Obligations.WatermarkOnlyWidens : Prop :=
  ∀ s t : State, step s = .next t → WatermarkWidens s t

/-- Only RTI ends servicing, and only an interrupt entry starts it. In any step in which servicing goes from set to clear the instruction fetched was RTI; no instruction sets servicing; an entry always does. While it is set no interrupt is entered: none is to be taken whatever the input brings, a running step with the fetch permitted executes an instruction and one with it denied does nothing, and requests of both kinds stay pending. (R18, R249, R250) -/
def Obligations.ServicingEndsOnlyByRti : Prop :=
  (∀ s t, step s = .next t → s.servicing = true → t.servicing = false → fetched s = .rti) ∧
  (∀ i s t, exec i s = .next t → t.servicing = true → s.servicing = true) ∧
  (∀ s t, step s = .next t → s.servicing = false → t.servicing = true →
    ∃ k, interruptToTake (takeInput s).2 = some k) ∧
  (∀ k s, (interruptEntry k s).servicing = true) ∧
  ∀ s, s.servicing = true →
    interruptToTake (takeInput s).2 = none ∧
    (s.exit = none → NotStopped s → (takeInput s).1.fetchPermit = true →
      ∃ u, exec (fetched s) (fetchInstr (takeInput s).2).2 = .next u ∧
        step s = .next (endIteration s.flags.b (takeInput s).1.stop u)) ∧
    (s.exit = none → NotStopped s → (takeInput s).1.fetchPermit = false →
      step s = .next (endIteration s.flags.b (takeInput s).1.stop (takeInput s).2)) ∧
    ∀ t, step s = .next t → (s.nmiPending = true → t.nmiPending = true) ∧ (s.irqPending = true → t.irqPending = true)

/-- What can set B: BRK, an instruction that pushes or pulls, an interrupt entry that overflows; without a halt reason only PLP and RTI. If an instruction takes B from 0 to 1 it is BRK, PHA, PHP, PLA, PLP, JSR, RTS or RTI; and if no halt reason is recorded after it, it is PLP or RTI. An interrupt entry takes B from 0 to 1 exactly when SP is 0, 1 or 2 (R253), and then a halt reason is recorded. If a step takes B from 0 to 1 it is one of these: an entry with SP at most 2, or, where no interrupt is to be taken, the instruction fetched is one of those named. (R96, R101, R241, R193, R253) -/
def Obligations.BreakIsSetOnlyBy : Prop :=
  (∀ i s t, exec i s = .next t → s.flags.b = false → t.flags.b = true →
    (i ∈ [Instr.brk, .pha, .php, .pla, .plp, .rts, .rti] ∨ ∃ w, i = .jsr w) ∧
    (t.haltReason = .none → i = .plp ∨ i = .rti)) ∧
  (∀ k s, s.flags.b = false →
    ((interruptEntry k s).flags.b = true ↔ s.sp.toNat ≤ 2) ∧
    ((interruptEntry k s).flags.b = true → (interruptEntry k s).haltReason ≠ .none)) ∧
  ∀ s t, step s = .next t → s.flags.b = false → t.flags.b = true →
    (∃ k, interruptToTake (takeInput s).2 = some k ∧ s.sp.toNat ≤ 2 ∧ t.haltReason ≠ .none) ∨
    (interruptToTake (takeInput s).2 = none ∧
      (fetched s ∈ [Instr.brk, .pha, .php, .pla, .plp, .rts, .rti] ∨ ∃ w, fetched s = .jsr w) ∧
      (t.haltReason = .none → fetched s = .plp ∨ fetched s = .rti))

/-- A recorded halt reason is never replaced, by an instruction or by an interrupt entry. If the halt reason is not None before, it is the same after any instruction and after any interrupt entry, and after any step. (R19, R193, R228, R241) -/
def Obligations.FirstHaltCauseStays : Prop :=
  (∀ i s t, exec i s = .next t → s.haltReason ≠ .none → t.haltReason = s.haltReason) ∧
  (∀ k s, s.haltReason ≠ .none → (interruptEntry k s).haltReason = s.haltReason) ∧
  ∀ s t, step s = .next t → s.haltReason ≠ .none → t.haltReason = s.haltReason

/-- The invalid opcode count goes up by one at an unmapped opcode and otherwise never changes. For every instruction, the count after it is the count before, plus one exactly when its constructor is one of the 105 unmapped. (R20, R230) -/
def Obligations.OnlyUnmappedOpcodesCount : Prop :=
  ∀ i s t, exec i s = .next t →
    t.invalidOpcodeCount = s.invalidOpcodeCount + (if isUnmapped i then 1 else 0)

/-- The decimal flag changes no result: it is only stored, packed, pushed and pulled. For every instruction but PHP, PLP, RTI, CLD and SED: executed with D at any value it answers the same state as with D as it was, but for D itself; the peripherals are taken to answer alike in both (log 4). The five left out read or write D: what they do with it stands in the statements on PHP and PLP, on the flag instructions and on RTI. (R13, R150, R163, R224, R225, log 4) -/
def Obligations.DecimalFlagIsInert : Prop :=
  ∀ (i : Instr) (s t : State) (x : Bool), i ∉ [Instr.php, .plp, .rti, .cld, .sed] → exec i s = .next t →
    exec i { s with flags := { s.flags with d := x } } = .next { t with flags := { t.flags with d := x } }

/-- Pushing n bytes and pulling n returns them in reverse order and SP to its start. With RAM in the stack page and at most SP bytes pushed (no overflow): the bytes come back in reverse, SP is as before, no flag and no halt reason changes. (R190, R191, R192, 95_test_vectors.md X4) -/
def Obligations.StackIsLastInFirstOut : Prop :=
  ∀ (vs : List Byte) (s : State), BusOk s → (∀ b : Byte, RamAt s (stackAddr b)) → vs.length ≤ s.sp.toNat →
    (pullMany vs.length (pushAll vs s)).1 = vs.reverse ∧
    (pullMany vs.length (pushAll vs s)).2.sp = s.sp ∧
    (pullMany vs.length (pushAll vs s)).2.flags = s.flags ∧
    (pullMany vs.length (pushAll vs s)).2.haltReason = s.haltReason

/-- RTS after JSR returns to the instruction after the JSR with SP restored. With RAM in the stack page and room for two bytes: JSR goes to its target, and RTS from there comes back to the next instruction with SP, A, X, Y and the flags as before. (R210, R211, 95_test_vectors.md X9) -/
def Obligations.JsrThenRtsReturns : Prop :=
  ∀ (s : State) (w : Word), BusOk s → (∀ b : Byte, RamAt s (stackAddr b)) → 2 ≤ s.sp.toNat →
    ∃ u t, exec (.jsr w) s = .next u ∧ u.pc = w ∧ u.sp = s.sp - 2#8 ∧ exec .rts u = .next t ∧
      t.pc = s.pc ∧ t.sp = s.sp ∧ t.a = s.a ∧ t.x = s.x ∧ t.y = s.y ∧ t.flags = s.flags

/-- RTI right after an interrupt entry resumes the interrupted program, with I cleared. With RAM in the stack page and room for three bytes, for both kinds: PC, SP, A, X, Y are as before, the flags are as before but I is 0, and servicing is clear. (R229, R246, R247, R250, R252) -/
def Obligations.RtiUndoesInterruptEntry : Prop :=
  ∀ (k : InterruptKind) (s : State), BusOk s → (∀ b : Byte, RamAt s (stackAddr b)) → 3 ≤ s.sp.toNat →
    ∃ t, exec .rti (interruptEntry k s) = .next t ∧ t.pc = s.pc ∧ t.sp = s.sp ∧ t.a = s.a ∧ t.x = s.x ∧ t.y = s.y ∧
      t.flags = { s.flags with i := false } ∧ t.servicing = false

/-- SBC after ADC with the same operand returns A exactly when the two carry-ins are complementary. For all bytes and carries: ADC #b with carry-in c, then SBC #b with carry-in c2 set between them, leaves A at (a + c + c2 - 1) modulo 256, which is a iff c and c2 differ. (R163, 90_conflicts.md C2) -/
def Obligations.AdcThenSbcRoundTrip : Prop :=
  ∀ (s u : State) (b : Byte) (c2 : Bool), exec (.adcImm b) s = .next u →
    ∃ t, exec (.sbcImm b) { u with flags := { u.flags with c := c2 } } = .next t ∧
      t.a = BitVec.ofInt 8 ((s.a.toNat : Int) + s.flags.c.toNat + c2.toNat - 1) ∧
      (t.a = s.a ↔ s.flags.c ≠ c2)

/-- What the loads, arithmetic, logic, compares and BIT leave unchanged, in every form. Only the named register and flags of R13 may differ (EOR: R172) (PC not even those: it was advanced by the fetch); halt reason, servicing, counter, loop status and inputs are unchanged; the whole bus and every byte of memory are unchanged. Two clauses are the model's form of what a peripheral can do, not the spec's: a request can appear only by a peripheral (log 5), calls of peripherals are only added (log 4), and with none installed neither happens. (R124, R131, R132, R133, R151, R152, R153, R170, R171, R173, log 4, log 5) -/
def Obligations.FrameOfReadingInstructions : Prop :=
  (LdaForms fun i _ => ReadFrame [.a, .zero, .negative] i) ∧ (LdxForms fun i _ => ReadFrame [.x, .zero, .negative] i) ∧
  (LdyForms fun i _ => ReadFrame [.y, .zero, .negative] i) ∧
  (AdcForms fun i _ => ReadFrame [.a, .carry, .zero, .overflow, .negative] i) ∧
  (SbcForms fun i _ => ReadFrame [.a, .carry, .zero, .overflow, .negative] i) ∧
  (CmpForms fun i _ => ReadFrame [.carry, .zero, .negative] i) ∧ (CpxForms fun i _ => ReadFrame [.carry, .zero, .negative] i) ∧
  (CpyForms fun i _ => ReadFrame [.carry, .zero, .negative] i) ∧ (AndForms fun i _ => ReadFrame [.a, .zero, .negative] i) ∧
  (OraForms fun i _ => ReadFrame [.a, .zero, .negative] i) ∧ (EorForms fun i _ => ReadFrame [.a, .zero, .negative] i) ∧
  (BitForms fun i _ => ReadFrame [.zero, .overflow, .negative] i)

/-- What the stores and the read-modify-write instructions leave unchanged, in every memory form. STA, STX, STY change no register and no flag; INC and DEC only Z and N; the memory shifts only C, Z and N; every byte outside the effective address reads as before; the other registers and flags, the halt reason, servicing, the counter, the loop status and the inputs are unchanged. The store moves the write watermark (R45, stated in BusWriteRouting). Two clauses are the model's form of what a peripheral can do, not the spec's: a request can appear only by a peripheral (log 5), calls of peripherals are only added (log 4), and with none installed neither happens. (R13, R124, R134, R135, R136, R157, R158, R174, R45, log 4, log 5) -/
def Obligations.FrameOfStoringInstructions : Prop :=
  (StaForms fun i m => StoreFrame [] i m) ∧ (StxForms fun i m => StoreFrame [] i m) ∧ (StyForms fun i m => StoreFrame [] i m) ∧
  (IncForms fun i m => StoreFrame [.zero, .negative] i m) ∧ (DecForms fun i m => StoreFrame [.zero, .negative] i m) ∧
  (AslForms fun i p => ∀ m, p = .mem m → StoreFrame [.carry, .zero, .negative] i m) ∧
  (LsrForms fun i p => ∀ m, p = .mem m → StoreFrame [.carry, .zero, .negative] i m) ∧
  (RolForms fun i p => ∀ m, p = .mem m → StoreFrame [.carry, .zero, .negative] i m) ∧
  (RorForms fun i p => ∀ m, p = .mem m → StoreFrame [.carry, .zero, .negative] i m)

/-- What the instructions without a bus access leave unchanged. Transfers, index increments and decrements, accumulator shifts, flag instructions, NOP and branches change only the named register and flags; the bus, every byte of memory, the pending flags and every special register are unchanged, and so is the record of the calls of peripherals (the model's form, log 4). (R13, R111, R112, R137, R142, R159, R175, R200, R220, R227, log 4) -/
def Obligations.FrameOfRegisterInstructions : Prop :=
  RegisterFrame [.x, .zero, .negative] .tax ∧ RegisterFrame [.y, .zero, .negative] .tay ∧
  RegisterFrame [.a, .zero, .negative] .txa ∧ RegisterFrame [.a, .zero, .negative] .tya ∧
  RegisterFrame [.x, .zero, .negative] .tsx ∧ RegisterFrame [.sp, .zero, .negative] .txs ∧
  RegisterFrame [.x, .zero, .negative] .inx ∧ RegisterFrame [.y, .zero, .negative] .iny ∧
  RegisterFrame [.x, .zero, .negative] .dex ∧ RegisterFrame [.y, .zero, .negative] .dey ∧
  RegisterFrame [.a, .carry, .zero, .negative] .aslAcc ∧ RegisterFrame [.a, .carry, .zero, .negative] .lsrAcc ∧
  RegisterFrame [.a, .carry, .zero, .negative] .rolAcc ∧ RegisterFrame [.a, .carry, .zero, .negative] .rorAcc ∧
  RegisterFrame [.carry] .clc ∧ RegisterFrame [.carry] .sec ∧ RegisterFrame [.interruptDisable] .cli ∧
  RegisterFrame [.interruptDisable] .sei ∧ RegisterFrame [.decimal] .cld ∧ RegisterFrame [.decimal] .sed ∧
  RegisterFrame [.overflow] .clv ∧ RegisterFrame [] .nop ∧
  ∀ off, RegisterFrame [.pc] (.bpl off) ∧ RegisterFrame [.pc] (.bmi off) ∧ RegisterFrame [.pc] (.bvc off) ∧
    RegisterFrame [.pc] (.bvs off) ∧ RegisterFrame [.pc] (.bcc off) ∧ RegisterFrame [.pc] (.bcs off) ∧
    RegisterFrame [.pc] (.bne off) ∧ RegisterFrame [.pc] (.beq off)

/-- What the pushing, pulling, jumping and halting instructions leave unchanged. PHA, PHP, JSR store only at the stack addresses they push to; PLA, PLP, RTS, RTI, JMP, BRK store nothing; B and the halt reason change only at an overflow or underflow (or in BRK, PLP, RTI as they say); only the named registers and flags differ; only RTI touches servicing. BRK leaves the pending flags and the calls of peripherals. For the others, two clauses are the model's form of what a peripheral can do, not the spec's: a request can appear only by a peripheral (log 5), calls of peripherals are only added (log 4), and with none installed neither happens. (R193, R194, R195, R196, R197, R209, R210, R211, R229, R228, log 4, log 5) -/
def Obligations.FrameOfStackAndTransferOfControl : Prop :=
  PushFrame 1 [.sp] (fun s => [stackAddr s.sp]) .pha ∧ PushFrame 1 [.sp] (fun s => [stackAddr s.sp]) .php ∧
  (∀ w, PushFrame 2 [.sp, .pc] (fun s => [stackAddr s.sp, stackAddr (s.sp - 1#8)]) (.jsr w)) ∧
  PullFrame 1 [.a, .sp, .zero, .negative] .pla ∧ PullFrame 2 [.sp, .pc] .rts ∧
  (JmpForms fun i _ => ReadFrame [.pc] i) ∧
  (∀ s t, exec .plp s = .next t →
    Untouched [.sp, .carry, .zero, .interruptDisable, .decimal, .brk, .overflow, .negative] s t ∧
    (s.sp.toNat + 1 ≤ 255 → t.haltReason = s.haltReason) ∧ SpecialsKept s t ∧ PendingKept s t ∧ MemoryKept s t) ∧
  (∀ s t, exec .rti s = .next t →
    Untouched [.pc, .sp, .carry, .zero, .interruptDisable, .decimal, .brk, .overflow, .negative] s t ∧
    (s.sp.toNat + 3 ≤ 255 → t.haltReason = s.haltReason) ∧ t.invalidOpcodeCount = s.invalidOpcodeCount ∧
    t.exit = s.exit ∧ t.inputs = s.inputs ∧ PendingKept s t ∧ MemoryKept s t) ∧
  ∀ s t, exec .brk s = .next t →
    Untouched [.brk] s t ∧ SpecialsKept s t ∧ t.nmiPending = s.nmiPending ∧ t.irqPending = s.irqPending ∧
    t.traffic = s.traffic ∧ MemoryKept s t

/-- What an interrupt entry leaves unchanged. An entry changes PC, SP, servicing (set), its own pending flag (cleared), I for the IRQ only, and B and the halt reason only if one of its three pushes overflows; A, X, Y, the other flags and every byte outside the three pushed ones are as before. A pending request of the other kind stays (R248); one that was not pending can appear only by a peripheral (log 5, a free value), and with none installed the other flag is as before. Calls of peripherals are only added (log 4). (R246, R247, R248, R252, R253, log 4, log 5) -/
def Obligations.FrameOfInterruptEntry : Prop :=
  ∀ k s,
    Untouched ((if k = .irq then [.interruptDisable] else []) ++ [.pc, .sp, .brk]) s (interruptEntry k s) ∧
    (3 ≤ s.sp.toNat → (interruptEntry k s).flags.b = s.flags.b ∧ (interruptEntry k s).haltReason = s.haltReason) ∧
    (interruptEntry k s).invalidOpcodeCount = s.invalidOpcodeCount ∧ (interruptEntry k s).exit = s.exit ∧
    (interruptEntry k s).inputs = s.inputs ∧ (interruptEntry k s).servicing = true ∧
    (k = .nmi → (interruptEntry k s).nmiPending = false ∧ (s.irqPending = true → (interruptEntry k s).irqPending = true) ∧
      (NoPeripherals s → (interruptEntry k s).irqPending = s.irqPending)) ∧
    (k = .irq → (interruptEntry k s).irqPending = false ∧ (s.nmiPending = true → (interruptEntry k s).nmiPending = true) ∧
      (NoPeripherals s → (interruptEntry k s).nmiPending = s.nmiPending)) ∧
    s.traffic <:+ (interruptEntry k s).traffic ∧ (NoPeripherals s → (interruptEntry k s).traffic = s.traffic) ∧
    MemoryKeptOutside [stackAddr s.sp, stackAddr (s.sp - 1#8), stackAddr (s.sp - 2#8)] s (interruptEntry k s)

/-- install gives every slot of the range to the device, and refuses a range past 65536. After an accepted install a covered slot is owned by the new device and every other slot by its earlier owner; a range past 65536 is refused (R41, R42). The owner is computed from the list of devices (log 15, DEDUCED). An install leaves the write watermark, and a device in canonical form keeps the bus in it: that form is the model's choice (log 16). (R41, R42, log 15, log 16) -/
def Obligations.InstallOverridesEarlierOwners : Prop :=
  ∀ (d : Device) (s : State),
    (d.base + d.size ≤ 65536 → ∃ t, install d s = .next t ∧
      (∀ a : Word, t.bus.owner a = if d.base ≤ a.toNat ∧ a.toNat < d.base + d.size then some d else s.bus.owner a) ∧
      t.bus.wmLow = s.bus.wmLow ∧ t.bus.wmHigh = s.bus.wmHigh ∧ (BusOk s → d.wf = true → BusOk t)) ∧
    (65536 < d.base + d.size → install d s = .refused .installPastTop)

/-- The loader's relative fixup patches the byte with which the branch reaches label plus offset. For a relative reference without a selector that resolves: its value is a displacement a byte holds; a fixup of it alone patches it and leaves nothing pending; over RAM the byte read back at its address is that displacement and every other address reads as before; the branch with the displacement that byte encodes, with PC just past it, goes to label + offset modulo 65536. That the offset takes part in the relative case is what R80 calls this spec's own reading. The :LO and :HI selectors stand in FixupValues. (R80, R123, 95_test_vectors.md X5, log 16) -/
def Obligations.RelativeFixupMeetsTheBranch : Prop :=
  ∀ (r : PendingRef) (label : Nat) (d : Int), r.site = .relative → r.selector = .both → r.value label = .ok d →
    signed8 (byteOfInt d) = d ∧
    (∀ l : Loader, l.pending = [r] → findLabel l.labels r.label = some label →
      l.fixup = .ok { l with machine := r.patch d l.machine, pending := [] }) ∧
    (∀ s : State, BusOk s → RamAt s (BitVec.ofNat 16 r.address) →
      (r.patch d s).peek (BitVec.ofNat 16 r.address) = byteOfInt d ∧
      ∀ a, a ≠ BitVec.ofNat 16 r.address → (r.patch d s).peek a = s.peek a) ∧
    ∀ s : State, s.pc = BitVec.ofNat 16 (r.address + 1) → branchTarget d s = BitVec.ofInt 16 (label + r.offset)

/-- A binary image puts byte i of its payload at load address plus i. With RAM over the whole space, a header of address and length followed by that many bytes that stay below 65536 loads, byte i is then read at the address plus i, and every other address reads as before; an image past the top is refused (log 18). (R82, R62, 93_implementation_defined.md U14) -/
def Obligations.BinaryImageLandsAtItsAddress : Prop :=
  ∀ (s : State) (base : Word) (payload : List Byte), BusOk s → (∀ a, RamAt s a) → payload.length < 65536 →
    let image := lowByte base :: highByte base :: lowByte (BitVec.ofNat 16 payload.length) ::
      highByte (BitVec.ofNat 16 payload.length) :: payload
    (base.toNat + payload.length ≤ 65536 → ∃ t, loadImage image none s = .next t ∧
      (∀ k (h : k < payload.length), t.peek (BitVec.ofNat 16 (base.toNat + k)) = payload[k]) ∧
      ∀ a : Word, a.toNat < base.toNat ∨ base.toNat + payload.length ≤ a.toNat → t.peek a = s.peek a) ∧
    (65536 < base.toNat + payload.length → loadImage image none s = .refused .imagePastTop)

/-- The value each kind of reference patches in, with and without a selector, and when it is out of range. With v the label plus the offset (for a relative reference, minus the reference's address and 1): no selector takes v, :LO its low byte, :HI the next byte; a word must be in 0..65535, a byte in 0..255, a relative value in -128..127, else the reference is out of range and a fixup of the load fails. That the offset takes part in the relative case, and :HI of a negative v, are this spec's own reading in R80 (log 24). (R80, R81, log 24) -/
def Obligations.FixupValues : Prop :=
  ∀ (r : PendingRef) (label : Nat),
    let v : Int := match r.site with
      | .word | .byte => label + r.offset
      | .relative => label + r.offset - r.address - 1
    let w : Int := match r.selector with
      | .both => v
      | .lo => v % 256
      | .hi => v / 256 % 256
    let low : Int := match r.site with
      | .word | .byte => 0
      | .relative => -128
    let high : Int := match r.site with
      | .word => 65535
      | .byte => 255
      | .relative => 127
    (low ≤ w ∧ w ≤ high → r.value label = .ok w) ∧
    (¬(low ≤ w ∧ w ≤ high) → r.value label = .error (.outOfRange r.label) ∧
      ∀ l : Loader, r ∈ l.pending → findLabel l.labels r.label = some label → ∃ es, l.fixup = .error es ∧
        FixupError.outOfRange r.label ∈ es)

/-- Every call a step makes of a peripheral is inside its size and with its right: the bus misuses no device. If every call recorded is of an installed peripheral, at an offset below its size, a read of one that can be read or a write of one that can be written, the same holds after any step. The record of the calls is the model's own form (log 4). (R40, R43, R44, R51, R59, log 4) -/
def Obligations.StepKeepsTrafficOk : Prop :=
  ∀ s t : State, TrafficOk s → step s = .next t → TrafficOk t

/-- A step never takes back a call of a peripheral: the calls before it are the older part of the calls after it. The list of calls before a step, the newest first, is a suffix of the list after it. The record of the calls is the model's own form (log 4). (R51, R53, log 4) -/
def Obligations.CallsOfPeripheralsOnlyGrow : Prop :=
  ∀ s t : State, step s = .next t → s.traffic <:+ t.traffic
end

