-- ==== Sys2Proof/Laws/Decode.lean ====
section
/-! SUPPORT. Facts about words, table entries and decoding that proofs cite instead of the table. -/

namespace Sys2Proof

theorem toNat_wordOf (hi lo : Byte) : (wordOf hi lo).toNat = 256 * hi.toNat + lo.toNat := by
  have h := lo.isLt
  rw [wordOf, BitVec.toNat_append, ← Nat.shiftLeft_add_eq_or_of_lt (by omega), Nat.shiftLeft_eq]
  omega

theorem toNat_lowByte (w : Word) : (lowByte w).toNat = w.toNat % 256 := by simp [lowByte]

theorem toNat_highByte (w : Word) : (highByte w).toNat = w.toNat / 256 := by
  have h := w.isLt
  simp [highByte, Nat.shiftRight_eq_div_pow]
  omega

/-- A word is its two bytes. -/
@[simp] theorem wordOf_bytes (w : Word) : wordOf (highByte w) (lowByte w) = w := by
  apply BitVec.eq_of_toNat_eq
  rw [toNat_wordOf, toNat_lowByte, toNat_highByte]
  omega

theorem lowByte_wordOf (hi lo : Byte) : lowByte (wordOf hi lo) = lo := by
  have h := lo.isLt
  apply BitVec.eq_of_toNat_eq
  rw [toNat_lowByte, toNat_wordOf]
  omega

theorem highByte_wordOf (hi lo : Byte) : highByte (wordOf hi lo) = hi := by
  have h := lo.isLt
  apply BitVec.eq_of_toNat_eq
  rw [toNat_highByte, toNat_wordOf]
  omega

/-- The signed value of an operand byte is a displacement. -/
theorem validDisplacement_signed8 (b : Byte) : validDisplacement (signed8 b) = true := by revert b; decide

theorem byteOfInt_signed8 (b : Byte) : byteOfInt (signed8 b) = b := BitVec.ofInt_toInt

theorem signed8_byteOfInt {off : Int} (h : validDisplacement off = true) : signed8 (byteOfInt off) = off := by
  simp only [validDisplacement, decide_eq_true_eq] at h
  simp only [signed8, byteOfInt, BitVec.toInt_ofInt, Int.bmod]
  split <;> omega

/-- Whatever its operand, an entry's instruction encodes to this opcode and the operand bytes, and is well formed. -/
def Form.Encodes (opcode : Byte) : Form → Prop
  | .plain i => encode i = [opcode] ∧ i.wellFormed = true
  | .byte k => ∀ b, encode (k b) = [opcode, b] ∧ (k b).wellFormed = true
  | .word k => ∀ w, encode (k w) = [opcode, lowByte w, highByte w] ∧ (k w).wellFormed = true
  | .rel k => ∀ off, encode (k off) = [opcode, byteOfInt off] ∧ (k off).wellFormed = validDisplacement off

/-- `Form.Encodes` of every entry of a list, the first at opcode `n`. -/
def Form.EncodeFrom : Nat → List Form → Prop
  | _, [] => True
  | n, f :: fs => f.Encodes (BitVec.ofNat 8 n) ∧ Form.EncodeFrom (n + 1) fs

theorem Form.encodes_at {l : List Form} {n k : Nat} (h : Form.EncodeFrom n l) (hk : k < l.length) :
    (formAt l k).Encodes (BitVec.ofNat 8 (n + k)) := by
  induction l generalizing n k with
  | nil => simp at hk
  | cons f fs ih =>
    cases k with
    | zero => exact h.1
    | succ k => have := ih h.2 (Nat.lt_of_succ_lt_succ hk); rwa [Nat.add_right_comm] at this

theorem Form.encodeFrom_append {l m : List Form} {n n' : Nat} (h : Form.EncodeFrom n l) (hn : n + l.length = n')
    (k : Form.EncodeFrom n' m) : Form.EncodeFrom n (l ++ m) := by
  subst hn
  induction l generalizing n with
  | nil => exact k
  | cons f fs ih => exact ⟨h.1, ih h.2 (by rwa [Nat.add_right_comm, Nat.add_assoc])⟩

theorem decodeRow0_encodes : Form.EncodeFrom 0 decodeRow0 :=
  ⟨
    ⟨rfl, rfl⟩, fun _ => ⟨rfl, rfl⟩, ⟨rfl, rfl⟩, ⟨rfl, rfl⟩,
    ⟨rfl, rfl⟩, fun _ => ⟨rfl, rfl⟩, fun _ => ⟨rfl, rfl⟩, ⟨rfl, rfl⟩,
    ⟨rfl, rfl⟩, fun _ => ⟨rfl, rfl⟩, ⟨rfl, rfl⟩, ⟨rfl, rfl⟩,
    ⟨rfl, rfl⟩, fun _ => ⟨rfl, rfl⟩, fun _ => ⟨rfl, rfl⟩, ⟨rfl, rfl⟩, trivial⟩

theorem decodeRow1_encodes : Form.EncodeFrom 16 decodeRow1 :=
  ⟨
    fun _ => ⟨rfl, rfl⟩, fun _ => ⟨rfl, rfl⟩, ⟨rfl, rfl⟩, ⟨rfl, rfl⟩,
    ⟨rfl, rfl⟩, fun _ => ⟨rfl, rfl⟩, fun _ => ⟨rfl, rfl⟩, ⟨rfl, rfl⟩,
    ⟨rfl, rfl⟩, fun _ => ⟨rfl, rfl⟩, ⟨rfl, rfl⟩, ⟨rfl, rfl⟩,
    ⟨rfl, rfl⟩, fun _ => ⟨rfl, rfl⟩, fun _ => ⟨rfl, rfl⟩, ⟨rfl, rfl⟩, trivial⟩

theorem decodeRow2_encodes : Form.EncodeFrom 32 decodeRow2 :=
  ⟨
    fun _ => ⟨rfl, rfl⟩, fun _ => ⟨rfl, rfl⟩, ⟨rfl, rfl⟩, ⟨rfl, rfl⟩,
    fun _ => ⟨rfl, rfl⟩, fun _ => ⟨rfl, rfl⟩, fun _ => ⟨rfl, rfl⟩, ⟨rfl, rfl⟩,
    ⟨rfl, rfl⟩, fun _ => ⟨rfl, rfl⟩, ⟨rfl, rfl⟩, ⟨rfl, rfl⟩,
    fun _ => ⟨rfl, rfl⟩, fun _ => ⟨rfl, rfl⟩, fun _ => ⟨rfl, rfl⟩, ⟨rfl, rfl⟩, trivial⟩

theorem decodeRow3_encodes : Form.EncodeFrom 48 decodeRow3 :=
  ⟨
    fun _ => ⟨rfl, rfl⟩, fun _ => ⟨rfl, rfl⟩, ⟨rfl, rfl⟩, ⟨rfl, rfl⟩,
    ⟨rfl, rfl⟩, fun _ => ⟨rfl, rfl⟩, fun _ => ⟨rfl, rfl⟩, ⟨rfl, rfl⟩,
    ⟨rfl, rfl⟩, fun _ => ⟨rfl, rfl⟩, ⟨rfl, rfl⟩, ⟨rfl, rfl⟩,
    ⟨rfl, rfl⟩, fun _ => ⟨rfl, rfl⟩, fun _ => ⟨rfl, rfl⟩, ⟨rfl, rfl⟩, trivial⟩

theorem decodeRow4_encodes : Form.EncodeFrom 64 decodeRow4 :=
  ⟨
    ⟨rfl, rfl⟩, fun _ => ⟨rfl, rfl⟩, ⟨rfl, rfl⟩, ⟨rfl, rfl⟩,
    ⟨rfl, rfl⟩, fun _ => ⟨rfl, rfl⟩, fun _ => ⟨rfl, rfl⟩, ⟨rfl, rfl⟩,
    ⟨rfl, rfl⟩, fun _ => ⟨rfl, rfl⟩, ⟨rfl, rfl⟩, ⟨rfl, rfl⟩,
    fun _ => ⟨rfl, rfl⟩, fun _ => ⟨rfl, rfl⟩, fun _ => ⟨rfl, rfl⟩, ⟨rfl, rfl⟩, trivial⟩

theorem decodeRow5_encodes : Form.EncodeFrom 80 decodeRow5 :=
  ⟨
    fun _ => ⟨rfl, rfl⟩, fun _ => ⟨rfl, rfl⟩, ⟨rfl, rfl⟩, ⟨rfl, rfl⟩,
    ⟨rfl, rfl⟩, fun _ => ⟨rfl, rfl⟩, fun _ => ⟨rfl, rfl⟩, ⟨rfl, rfl⟩,
    ⟨rfl, rfl⟩, fun _ => ⟨rfl, rfl⟩, ⟨rfl, rfl⟩, ⟨rfl, rfl⟩,
    ⟨rfl, rfl⟩, fun _ => ⟨rfl, rfl⟩, fun _ => ⟨rfl, rfl⟩, ⟨rfl, rfl⟩, trivial⟩

theorem decodeRow6_encodes : Form.EncodeFrom 96 decodeRow6 :=
  ⟨
    ⟨rfl, rfl⟩, fun _ => ⟨rfl, rfl⟩, ⟨rfl, rfl⟩, ⟨rfl, rfl⟩,
    ⟨rfl, rfl⟩, fun _ => ⟨rfl, rfl⟩, fun _ => ⟨rfl, rfl⟩, ⟨rfl, rfl⟩,
    ⟨rfl, rfl⟩, fun _ => ⟨rfl, rfl⟩, ⟨rfl, rfl⟩, ⟨rfl, rfl⟩,
    fun _ => ⟨rfl, rfl⟩, fun _ => ⟨rfl, rfl⟩, fun _ => ⟨rfl, rfl⟩, ⟨rfl, rfl⟩, trivial⟩

theorem decodeRow7_encodes : Form.EncodeFrom 112 decodeRow7 :=
  ⟨
    fun _ => ⟨rfl, rfl⟩, fun _ => ⟨rfl, rfl⟩, ⟨rfl, rfl⟩, ⟨rfl, rfl⟩,
    ⟨rfl, rfl⟩, fun _ => ⟨rfl, rfl⟩, fun _ => ⟨rfl, rfl⟩, ⟨rfl, rfl⟩,
    ⟨rfl, rfl⟩, fun _ => ⟨rfl, rfl⟩, ⟨rfl, rfl⟩, ⟨rfl, rfl⟩,
    ⟨rfl, rfl⟩, fun _ => ⟨rfl, rfl⟩, fun _ => ⟨rfl, rfl⟩, ⟨rfl, rfl⟩, trivial⟩

theorem decodeRow8_encodes : Form.EncodeFrom 128 decodeRow8 :=
  ⟨
    ⟨rfl, rfl⟩, fun _ => ⟨rfl, rfl⟩, ⟨rfl, rfl⟩, ⟨rfl, rfl⟩,
    fun _ => ⟨rfl, rfl⟩, fun _ => ⟨rfl, rfl⟩, fun _ => ⟨rfl, rfl⟩, ⟨rfl, rfl⟩,
    ⟨rfl, rfl⟩, ⟨rfl, rfl⟩, ⟨rfl, rfl⟩, ⟨rfl, rfl⟩,
    fun _ => ⟨rfl, rfl⟩, fun _ => ⟨rfl, rfl⟩, fun _ => ⟨rfl, rfl⟩, ⟨rfl, rfl⟩, trivial⟩

theorem decodeRow9_encodes : Form.EncodeFrom 144 decodeRow9 :=
  ⟨
    fun _ => ⟨rfl, rfl⟩, fun _ => ⟨rfl, rfl⟩, ⟨rfl, rfl⟩, ⟨rfl, rfl⟩,
    fun _ => ⟨rfl, rfl⟩, fun _ => ⟨rfl, rfl⟩, fun _ => ⟨rfl, rfl⟩, ⟨rfl, rfl⟩,
    ⟨rfl, rfl⟩, fun _ => ⟨rfl, rfl⟩, ⟨rfl, rfl⟩, ⟨rfl, rfl⟩,
    ⟨rfl, rfl⟩, fun _ => ⟨rfl, rfl⟩, ⟨rfl, rfl⟩, ⟨rfl, rfl⟩, trivial⟩

theorem decodeRowA_encodes : Form.EncodeFrom 160 decodeRowA :=
  ⟨
    fun _ => ⟨rfl, rfl⟩, fun _ => ⟨rfl, rfl⟩, fun _ => ⟨rfl, rfl⟩, ⟨rfl, rfl⟩,
    fun _ => ⟨rfl, rfl⟩, fun _ => ⟨rfl, rfl⟩, fun _ => ⟨rfl, rfl⟩, ⟨rfl, rfl⟩,
    ⟨rfl, rfl⟩, fun _ => ⟨rfl, rfl⟩, ⟨rfl, rfl⟩, ⟨rfl, rfl⟩,
    fun _ => ⟨rfl, rfl⟩, fun _ => ⟨rfl, rfl⟩, fun _ => ⟨rfl, rfl⟩, ⟨rfl, rfl⟩, trivial⟩

theorem decodeRowB_encodes : Form.EncodeFrom 176 decodeRowB :=
  ⟨
    fun _ => ⟨rfl, rfl⟩, fun _ => ⟨rfl, rfl⟩, ⟨rfl, rfl⟩, ⟨rfl, rfl⟩,
    fun _ => ⟨rfl, rfl⟩, fun _ => ⟨rfl, rfl⟩, fun _ => ⟨rfl, rfl⟩, ⟨rfl, rfl⟩,
    ⟨rfl, rfl⟩, fun _ => ⟨rfl, rfl⟩, ⟨rfl, rfl⟩, ⟨rfl, rfl⟩,
    fun _ => ⟨rfl, rfl⟩, fun _ => ⟨rfl, rfl⟩, fun _ => ⟨rfl, rfl⟩, ⟨rfl, rfl⟩, trivial⟩

theorem decodeRowC_encodes : Form.EncodeFrom 192 decodeRowC :=
  ⟨
    fun _ => ⟨rfl, rfl⟩, fun _ => ⟨rfl, rfl⟩, ⟨rfl, rfl⟩, ⟨rfl, rfl⟩,
    fun _ => ⟨rfl, rfl⟩, fun _ => ⟨rfl, rfl⟩, fun _ => ⟨rfl, rfl⟩, ⟨rfl, rfl⟩,
    ⟨rfl, rfl⟩, fun _ => ⟨rfl, rfl⟩, ⟨rfl, rfl⟩, ⟨rfl, rfl⟩,
    fun _ => ⟨rfl, rfl⟩, fun _ => ⟨rfl, rfl⟩, fun _ => ⟨rfl, rfl⟩, ⟨rfl, rfl⟩, trivial⟩

theorem decodeRowD_encodes : Form.EncodeFrom 208 decodeRowD :=
  ⟨
    fun _ => ⟨rfl, rfl⟩, fun _ => ⟨rfl, rfl⟩, ⟨rfl, rfl⟩, ⟨rfl, rfl⟩,
    ⟨rfl, rfl⟩, fun _ => ⟨rfl, rfl⟩, fun _ => ⟨rfl, rfl⟩, ⟨rfl, rfl⟩,
    ⟨rfl, rfl⟩, fun _ => ⟨rfl, rfl⟩, ⟨rfl, rfl⟩, ⟨rfl, rfl⟩,
    ⟨rfl, rfl⟩, fun _ => ⟨rfl, rfl⟩, fun _ => ⟨rfl, rfl⟩, ⟨rfl, rfl⟩, trivial⟩

theorem decodeRowE_encodes : Form.EncodeFrom 224 decodeRowE :=
  ⟨
    fun _ => ⟨rfl, rfl⟩, fun _ => ⟨rfl, rfl⟩, ⟨rfl, rfl⟩, ⟨rfl, rfl⟩,
    fun _ => ⟨rfl, rfl⟩, fun _ => ⟨rfl, rfl⟩, fun _ => ⟨rfl, rfl⟩, ⟨rfl, rfl⟩,
    ⟨rfl, rfl⟩, fun _ => ⟨rfl, rfl⟩, ⟨rfl, rfl⟩, ⟨rfl, rfl⟩,
    fun _ => ⟨rfl, rfl⟩, fun _ => ⟨rfl, rfl⟩, fun _ => ⟨rfl, rfl⟩, ⟨rfl, rfl⟩, trivial⟩

theorem decodeRowF_encodes : Form.EncodeFrom 240 decodeRowF :=
  ⟨
    fun _ => ⟨rfl, rfl⟩, fun _ => ⟨rfl, rfl⟩, ⟨rfl, rfl⟩, ⟨rfl, rfl⟩,
    ⟨rfl, rfl⟩, fun _ => ⟨rfl, rfl⟩, fun _ => ⟨rfl, rfl⟩, ⟨rfl, rfl⟩,
    ⟨rfl, rfl⟩, fun _ => ⟨rfl, rfl⟩, ⟨rfl, rfl⟩, ⟨rfl, rfl⟩,
    ⟨rfl, rfl⟩, fun _ => ⟨rfl, rfl⟩, fun _ => ⟨rfl, rfl⟩, ⟨rfl, rfl⟩, trivial⟩

@[simp] theorem decodeRow0_length : decodeRow0.length = 16 := rfl
@[simp] theorem decodeRow1_length : decodeRow1.length = 16 := rfl
@[simp] theorem decodeRow2_length : decodeRow2.length = 16 := rfl
@[simp] theorem decodeRow3_length : decodeRow3.length = 16 := rfl
@[simp] theorem decodeRow4_length : decodeRow4.length = 16 := rfl
@[simp] theorem decodeRow5_length : decodeRow5.length = 16 := rfl
@[simp] theorem decodeRow6_length : decodeRow6.length = 16 := rfl
@[simp] theorem decodeRow7_length : decodeRow7.length = 16 := rfl
@[simp] theorem decodeRow8_length : decodeRow8.length = 16 := rfl
@[simp] theorem decodeRow9_length : decodeRow9.length = 16 := rfl
@[simp] theorem decodeRowA_length : decodeRowA.length = 16 := rfl
@[simp] theorem decodeRowB_length : decodeRowB.length = 16 := rfl
@[simp] theorem decodeRowC_length : decodeRowC.length = 16 := rfl
@[simp] theorem decodeRowD_length : decodeRowD.length = 16 := rfl
@[simp] theorem decodeRowE_length : decodeRowE.length = 16 := rfl
@[simp] theorem decodeRowF_length : decodeRowF.length = 16 := rfl

theorem decodeTable_length : decodeTable.length = 256 := by simp [decodeTable]

/-- Every entry of the decode table encodes back to its own opcode. -/
theorem formOf_encodes (b : Byte) : (formOf b).Encodes b := by
  have h : Form.EncodeFrom 0 decodeTable := by
    unfold decodeTable
    refine Form.encodeFrom_append ?_ (by simp) decodeRowF_encodes
    refine Form.encodeFrom_append ?_ (by simp) decodeRowE_encodes
    refine Form.encodeFrom_append ?_ (by simp) decodeRowD_encodes
    refine Form.encodeFrom_append ?_ (by simp) decodeRowC_encodes
    refine Form.encodeFrom_append ?_ (by simp) decodeRowB_encodes
    refine Form.encodeFrom_append ?_ (by simp) decodeRowA_encodes
    refine Form.encodeFrom_append ?_ (by simp) decodeRow9_encodes
    refine Form.encodeFrom_append ?_ (by simp) decodeRow8_encodes
    refine Form.encodeFrom_append ?_ (by simp) decodeRow7_encodes
    refine Form.encodeFrom_append ?_ (by simp) decodeRow6_encodes
    refine Form.encodeFrom_append ?_ (by simp) decodeRow5_encodes
    refine Form.encodeFrom_append ?_ (by simp) decodeRow4_encodes
    refine Form.encodeFrom_append ?_ (by simp) decodeRow3_encodes
    refine Form.encodeFrom_append ?_ (by simp) decodeRow2_encodes
    refine Form.encodeFrom_append ?_ (by simp) decodeRow1_encodes
    exact decodeRow0_encodes
  have e := Form.encodes_at h (k := b.toNat) (by rw [decodeTable_length]; exact b.isLt)
  rwa [Nat.zero_add, BitVec.ofNat_toNat, BitVec.setWidth_eq] at e

/-- The length of a decoded instruction is that of the entry of its first byte (R76). -/
theorem decode_length {b : Byte} {rest rest' : List Byte} {i : Instr} (h : decode (b :: rest) = .ok (i, rest')) :
    i.length = (formOf b).length := by
  have e := formOf_encodes b
  have o : ∀ j : Instr, (encode j).headD 0 = b → j.length = (formOf b).length := fun j hj => by
    rw [Instr.length, Instr.opcode, hj]
  unfold decode at h
  dsimp only at h
  cases hf : formOf b <;> rw [hf] at h e o <;> try dsimp only at h
  case plain j => cases h; exact o _ (by rw [e.1]; rfl)
  case byte k =>
    cases rest with
    | nil => cases h
    | cons x r => cases h; exact o _ (by rw [(e x).1]; rfl)
  case rel k =>
    cases rest with
    | nil => cases h
    | cons x r => cases h; exact o _ (by rw [(e _).1]; rfl)
  case word k =>
    cases rest with
    | nil => cases h
    | cons x r =>
      cases r with
      | nil => cases h
      | cons y r => cases h; exact o _ (by rw [(e _).1]; rfl)

end Sys2Proof
end

