-- ==== Sys2Proof/Laws/State.lean ====
section
/-! SUPPORT. What every register write does to every field, and what an access to a peripheral does. -/

namespace Sys2Proof.Machine

section
variable (s : State)

section
variable (v : Word)
@[simp] theorem State.setPc_pc : (s.setPc v).pc = v := rfl
@[simp] theorem State.setPc_sp : (s.setPc v).sp = s.sp := rfl
@[simp] theorem State.setPc_a : (s.setPc v).a = s.a := rfl
@[simp] theorem State.setPc_x : (s.setPc v).x = s.x := rfl
@[simp] theorem State.setPc_y : (s.setPc v).y = s.y := rfl
@[simp] theorem State.setPc_flags : (s.setPc v).flags = s.flags := rfl
@[simp] theorem State.setPc_nmiPending : (s.setPc v).nmiPending = s.nmiPending := rfl
@[simp] theorem State.setPc_irqPending : (s.setPc v).irqPending = s.irqPending := rfl
@[simp] theorem State.setPc_servicing : (s.setPc v).servicing = s.servicing := rfl
@[simp] theorem State.setPc_haltReason : (s.setPc v).haltReason = s.haltReason := rfl
@[simp] theorem State.setPc_invalidOpcodeCount : (s.setPc v).invalidOpcodeCount = s.invalidOpcodeCount := rfl
@[simp] theorem State.setPc_bus : (s.setPc v).bus = s.bus := rfl
@[simp] theorem State.setPc_exit : (s.setPc v).exit = s.exit := rfl
@[simp] theorem State.setPc_inputs : (s.setPc v).inputs = s.inputs := rfl
@[simp] theorem State.setPc_traffic : (s.setPc v).traffic = s.traffic := rfl
end

section
variable (v : Byte)
@[simp] theorem State.setSp_pc : (s.setSp v).pc = s.pc := rfl
@[simp] theorem State.setSp_sp : (s.setSp v).sp = v := rfl
@[simp] theorem State.setSp_a : (s.setSp v).a = s.a := rfl
@[simp] theorem State.setSp_x : (s.setSp v).x = s.x := rfl
@[simp] theorem State.setSp_y : (s.setSp v).y = s.y := rfl
@[simp] theorem State.setSp_flags : (s.setSp v).flags = s.flags := rfl
@[simp] theorem State.setSp_nmiPending : (s.setSp v).nmiPending = s.nmiPending := rfl
@[simp] theorem State.setSp_irqPending : (s.setSp v).irqPending = s.irqPending := rfl
@[simp] theorem State.setSp_servicing : (s.setSp v).servicing = s.servicing := rfl
@[simp] theorem State.setSp_haltReason : (s.setSp v).haltReason = s.haltReason := rfl
@[simp] theorem State.setSp_invalidOpcodeCount : (s.setSp v).invalidOpcodeCount = s.invalidOpcodeCount := rfl
@[simp] theorem State.setSp_bus : (s.setSp v).bus = s.bus := rfl
@[simp] theorem State.setSp_exit : (s.setSp v).exit = s.exit := rfl
@[simp] theorem State.setSp_inputs : (s.setSp v).inputs = s.inputs := rfl
@[simp] theorem State.setSp_traffic : (s.setSp v).traffic = s.traffic := rfl
end

section
variable (v : Byte)
@[simp] theorem State.setA_pc : (s.setA v).pc = s.pc := rfl
@[simp] theorem State.setA_sp : (s.setA v).sp = s.sp := rfl
@[simp] theorem State.setA_a : (s.setA v).a = v := rfl
@[simp] theorem State.setA_x : (s.setA v).x = s.x := rfl
@[simp] theorem State.setA_y : (s.setA v).y = s.y := rfl
@[simp] theorem State.setA_flags : (s.setA v).flags = s.flags := rfl
@[simp] theorem State.setA_nmiPending : (s.setA v).nmiPending = s.nmiPending := rfl
@[simp] theorem State.setA_irqPending : (s.setA v).irqPending = s.irqPending := rfl
@[simp] theorem State.setA_servicing : (s.setA v).servicing = s.servicing := rfl
@[simp] theorem State.setA_haltReason : (s.setA v).haltReason = s.haltReason := rfl
@[simp] theorem State.setA_invalidOpcodeCount : (s.setA v).invalidOpcodeCount = s.invalidOpcodeCount := rfl
@[simp] theorem State.setA_bus : (s.setA v).bus = s.bus := rfl
@[simp] theorem State.setA_exit : (s.setA v).exit = s.exit := rfl
@[simp] theorem State.setA_inputs : (s.setA v).inputs = s.inputs := rfl
@[simp] theorem State.setA_traffic : (s.setA v).traffic = s.traffic := rfl
end

section
variable (v : Byte)
@[simp] theorem State.setX_pc : (s.setX v).pc = s.pc := rfl
@[simp] theorem State.setX_sp : (s.setX v).sp = s.sp := rfl
@[simp] theorem State.setX_a : (s.setX v).a = s.a := rfl
@[simp] theorem State.setX_x : (s.setX v).x = v := rfl
@[simp] theorem State.setX_y : (s.setX v).y = s.y := rfl
@[simp] theorem State.setX_flags : (s.setX v).flags = s.flags := rfl
@[simp] theorem State.setX_nmiPending : (s.setX v).nmiPending = s.nmiPending := rfl
@[simp] theorem State.setX_irqPending : (s.setX v).irqPending = s.irqPending := rfl
@[simp] theorem State.setX_servicing : (s.setX v).servicing = s.servicing := rfl
@[simp] theorem State.setX_haltReason : (s.setX v).haltReason = s.haltReason := rfl
@[simp] theorem State.setX_invalidOpcodeCount : (s.setX v).invalidOpcodeCount = s.invalidOpcodeCount := rfl
@[simp] theorem State.setX_bus : (s.setX v).bus = s.bus := rfl
@[simp] theorem State.setX_exit : (s.setX v).exit = s.exit := rfl
@[simp] theorem State.setX_inputs : (s.setX v).inputs = s.inputs := rfl
@[simp] theorem State.setX_traffic : (s.setX v).traffic = s.traffic := rfl
end

section
variable (v : Byte)
@[simp] theorem State.setY_pc : (s.setY v).pc = s.pc := rfl
@[simp] theorem State.setY_sp : (s.setY v).sp = s.sp := rfl
@[simp] theorem State.setY_a : (s.setY v).a = s.a := rfl
@[simp] theorem State.setY_x : (s.setY v).x = s.x := rfl
@[simp] theorem State.setY_y : (s.setY v).y = v := rfl
@[simp] theorem State.setY_flags : (s.setY v).flags = s.flags := rfl
@[simp] theorem State.setY_nmiPending : (s.setY v).nmiPending = s.nmiPending := rfl
@[simp] theorem State.setY_irqPending : (s.setY v).irqPending = s.irqPending := rfl
@[simp] theorem State.setY_servicing : (s.setY v).servicing = s.servicing := rfl
@[simp] theorem State.setY_haltReason : (s.setY v).haltReason = s.haltReason := rfl
@[simp] theorem State.setY_invalidOpcodeCount : (s.setY v).invalidOpcodeCount = s.invalidOpcodeCount := rfl
@[simp] theorem State.setY_bus : (s.setY v).bus = s.bus := rfl
@[simp] theorem State.setY_exit : (s.setY v).exit = s.exit := rfl
@[simp] theorem State.setY_inputs : (s.setY v).inputs = s.inputs := rfl
@[simp] theorem State.setY_traffic : (s.setY v).traffic = s.traffic := rfl
end

section
variable (v : Flags)
@[simp] theorem State.setFlags_pc : (s.setFlags v).pc = s.pc := rfl
@[simp] theorem State.setFlags_sp : (s.setFlags v).sp = s.sp := rfl
@[simp] theorem State.setFlags_a : (s.setFlags v).a = s.a := rfl
@[simp] theorem State.setFlags_x : (s.setFlags v).x = s.x := rfl
@[simp] theorem State.setFlags_y : (s.setFlags v).y = s.y := rfl
@[simp] theorem State.setFlags_flags : (s.setFlags v).flags = v := rfl
@[simp] theorem State.setFlags_nmiPending : (s.setFlags v).nmiPending = s.nmiPending := rfl
@[simp] theorem State.setFlags_irqPending : (s.setFlags v).irqPending = s.irqPending := rfl
@[simp] theorem State.setFlags_servicing : (s.setFlags v).servicing = s.servicing := rfl
@[simp] theorem State.setFlags_haltReason : (s.setFlags v).haltReason = s.haltReason := rfl
@[simp] theorem State.setFlags_invalidOpcodeCount : (s.setFlags v).invalidOpcodeCount = s.invalidOpcodeCount := rfl
@[simp] theorem State.setFlags_bus : (s.setFlags v).bus = s.bus := rfl
@[simp] theorem State.setFlags_exit : (s.setFlags v).exit = s.exit := rfl
@[simp] theorem State.setFlags_inputs : (s.setFlags v).inputs = s.inputs := rfl
@[simp] theorem State.setFlags_traffic : (s.setFlags v).traffic = s.traffic := rfl
end

section
variable (v : Bool)
@[simp] theorem State.setNmiPending_pc : (s.setNmiPending v).pc = s.pc := rfl
@[simp] theorem State.setNmiPending_sp : (s.setNmiPending v).sp = s.sp := rfl
@[simp] theorem State.setNmiPending_a : (s.setNmiPending v).a = s.a := rfl
@[simp] theorem State.setNmiPending_x : (s.setNmiPending v).x = s.x := rfl
@[simp] theorem State.setNmiPending_y : (s.setNmiPending v).y = s.y := rfl
@[simp] theorem State.setNmiPending_flags : (s.setNmiPending v).flags = s.flags := rfl
@[simp] theorem State.setNmiPending_nmiPending : (s.setNmiPending v).nmiPending = v := rfl
@[simp] theorem State.setNmiPending_irqPending : (s.setNmiPending v).irqPending = s.irqPending := rfl
@[simp] theorem State.setNmiPending_servicing : (s.setNmiPending v).servicing = s.servicing := rfl
@[simp] theorem State.setNmiPending_haltReason : (s.setNmiPending v).haltReason = s.haltReason := rfl
@[simp] theorem State.setNmiPending_invalidOpcodeCount : (s.setNmiPending v).invalidOpcodeCount = s.invalidOpcodeCount := rfl
@[simp] theorem State.setNmiPending_bus : (s.setNmiPending v).bus = s.bus := rfl
@[simp] theorem State.setNmiPending_exit : (s.setNmiPending v).exit = s.exit := rfl
@[simp] theorem State.setNmiPending_inputs : (s.setNmiPending v).inputs = s.inputs := rfl
@[simp] theorem State.setNmiPending_traffic : (s.setNmiPending v).traffic = s.traffic := rfl
end

section
variable (v : Bool)
@[simp] theorem State.setIrqPending_pc : (s.setIrqPending v).pc = s.pc := rfl
@[simp] theorem State.setIrqPending_sp : (s.setIrqPending v).sp = s.sp := rfl
@[simp] theorem State.setIrqPending_a : (s.setIrqPending v).a = s.a := rfl
@[simp] theorem State.setIrqPending_x : (s.setIrqPending v).x = s.x := rfl
@[simp] theorem State.setIrqPending_y : (s.setIrqPending v).y = s.y := rfl
@[simp] theorem State.setIrqPending_flags : (s.setIrqPending v).flags = s.flags := rfl
@[simp] theorem State.setIrqPending_nmiPending : (s.setIrqPending v).nmiPending = s.nmiPending := rfl
@[simp] theorem State.setIrqPending_irqPending : (s.setIrqPending v).irqPending = v := rfl
@[simp] theorem State.setIrqPending_servicing : (s.setIrqPending v).servicing = s.servicing := rfl
@[simp] theorem State.setIrqPending_haltReason : (s.setIrqPending v).haltReason = s.haltReason := rfl
@[simp] theorem State.setIrqPending_invalidOpcodeCount : (s.setIrqPending v).invalidOpcodeCount = s.invalidOpcodeCount := rfl
@[simp] theorem State.setIrqPending_bus : (s.setIrqPending v).bus = s.bus := rfl
@[simp] theorem State.setIrqPending_exit : (s.setIrqPending v).exit = s.exit := rfl
@[simp] theorem State.setIrqPending_inputs : (s.setIrqPending v).inputs = s.inputs := rfl
@[simp] theorem State.setIrqPending_traffic : (s.setIrqPending v).traffic = s.traffic := rfl
end

section
variable (v : Bool)
@[simp] theorem State.setServicing_pc : (s.setServicing v).pc = s.pc := rfl
@[simp] theorem State.setServicing_sp : (s.setServicing v).sp = s.sp := rfl
@[simp] theorem State.setServicing_a : (s.setServicing v).a = s.a := rfl
@[simp] theorem State.setServicing_x : (s.setServicing v).x = s.x := rfl
@[simp] theorem State.setServicing_y : (s.setServicing v).y = s.y := rfl
@[simp] theorem State.setServicing_flags : (s.setServicing v).flags = s.flags := rfl
@[simp] theorem State.setServicing_nmiPending : (s.setServicing v).nmiPending = s.nmiPending := rfl
@[simp] theorem State.setServicing_irqPending : (s.setServicing v).irqPending = s.irqPending := rfl
@[simp] theorem State.setServicing_servicing : (s.setServicing v).servicing = v := rfl
@[simp] theorem State.setServicing_haltReason : (s.setServicing v).haltReason = s.haltReason := rfl
@[simp] theorem State.setServicing_invalidOpcodeCount : (s.setServicing v).invalidOpcodeCount = s.invalidOpcodeCount := rfl
@[simp] theorem State.setServicing_bus : (s.setServicing v).bus = s.bus := rfl
@[simp] theorem State.setServicing_exit : (s.setServicing v).exit = s.exit := rfl
@[simp] theorem State.setServicing_inputs : (s.setServicing v).inputs = s.inputs := rfl
@[simp] theorem State.setServicing_traffic : (s.setServicing v).traffic = s.traffic := rfl
end

section
variable (v : HaltReason)
@[simp] theorem State.setHaltReason_pc : (s.setHaltReason v).pc = s.pc := rfl
@[simp] theorem State.setHaltReason_sp : (s.setHaltReason v).sp = s.sp := rfl
@[simp] theorem State.setHaltReason_a : (s.setHaltReason v).a = s.a := rfl
@[simp] theorem State.setHaltReason_x : (s.setHaltReason v).x = s.x := rfl
@[simp] theorem State.setHaltReason_y : (s.setHaltReason v).y = s.y := rfl
@[simp] theorem State.setHaltReason_flags : (s.setHaltReason v).flags = s.flags := rfl
@[simp] theorem State.setHaltReason_nmiPending : (s.setHaltReason v).nmiPending = s.nmiPending := rfl
@[simp] theorem State.setHaltReason_irqPending : (s.setHaltReason v).irqPending = s.irqPending := rfl
@[simp] theorem State.setHaltReason_servicing : (s.setHaltReason v).servicing = s.servicing := rfl
@[simp] theorem State.setHaltReason_haltReason : (s.setHaltReason v).haltReason = v := rfl
@[simp] theorem State.setHaltReason_invalidOpcodeCount : (s.setHaltReason v).invalidOpcodeCount = s.invalidOpcodeCount := rfl
@[simp] theorem State.setHaltReason_bus : (s.setHaltReason v).bus = s.bus := rfl
@[simp] theorem State.setHaltReason_exit : (s.setHaltReason v).exit = s.exit := rfl
@[simp] theorem State.setHaltReason_inputs : (s.setHaltReason v).inputs = s.inputs := rfl
@[simp] theorem State.setHaltReason_traffic : (s.setHaltReason v).traffic = s.traffic := rfl
end

section
variable (v : Nat)
@[simp] theorem State.setInvalidOpcodeCount_pc : (s.setInvalidOpcodeCount v).pc = s.pc := rfl
@[simp] theorem State.setInvalidOpcodeCount_sp : (s.setInvalidOpcodeCount v).sp = s.sp := rfl
@[simp] theorem State.setInvalidOpcodeCount_a : (s.setInvalidOpcodeCount v).a = s.a := rfl
@[simp] theorem State.setInvalidOpcodeCount_x : (s.setInvalidOpcodeCount v).x = s.x := rfl
@[simp] theorem State.setInvalidOpcodeCount_y : (s.setInvalidOpcodeCount v).y = s.y := rfl
@[simp] theorem State.setInvalidOpcodeCount_flags : (s.setInvalidOpcodeCount v).flags = s.flags := rfl
@[simp] theorem State.setInvalidOpcodeCount_nmiPending : (s.setInvalidOpcodeCount v).nmiPending = s.nmiPending := rfl
@[simp] theorem State.setInvalidOpcodeCount_irqPending : (s.setInvalidOpcodeCount v).irqPending = s.irqPending := rfl
@[simp] theorem State.setInvalidOpcodeCount_servicing : (s.setInvalidOpcodeCount v).servicing = s.servicing := rfl
@[simp] theorem State.setInvalidOpcodeCount_haltReason : (s.setInvalidOpcodeCount v).haltReason = s.haltReason := rfl
@[simp] theorem State.setInvalidOpcodeCount_invalidOpcodeCount : (s.setInvalidOpcodeCount v).invalidOpcodeCount = v := rfl
@[simp] theorem State.setInvalidOpcodeCount_bus : (s.setInvalidOpcodeCount v).bus = s.bus := rfl
@[simp] theorem State.setInvalidOpcodeCount_exit : (s.setInvalidOpcodeCount v).exit = s.exit := rfl
@[simp] theorem State.setInvalidOpcodeCount_inputs : (s.setInvalidOpcodeCount v).inputs = s.inputs := rfl
@[simp] theorem State.setInvalidOpcodeCount_traffic : (s.setInvalidOpcodeCount v).traffic = s.traffic := rfl
end

section
variable (v : Bus)
@[simp] theorem State.setBus_pc : (s.setBus v).pc = s.pc := rfl
@[simp] theorem State.setBus_sp : (s.setBus v).sp = s.sp := rfl
@[simp] theorem State.setBus_a : (s.setBus v).a = s.a := rfl
@[simp] theorem State.setBus_x : (s.setBus v).x = s.x := rfl
@[simp] theorem State.setBus_y : (s.setBus v).y = s.y := rfl
@[simp] theorem State.setBus_flags : (s.setBus v).flags = s.flags := rfl
@[simp] theorem State.setBus_nmiPending : (s.setBus v).nmiPending = s.nmiPending := rfl
@[simp] theorem State.setBus_irqPending : (s.setBus v).irqPending = s.irqPending := rfl
@[simp] theorem State.setBus_servicing : (s.setBus v).servicing = s.servicing := rfl
@[simp] theorem State.setBus_haltReason : (s.setBus v).haltReason = s.haltReason := rfl
@[simp] theorem State.setBus_invalidOpcodeCount : (s.setBus v).invalidOpcodeCount = s.invalidOpcodeCount := rfl
@[simp] theorem State.setBus_bus : (s.setBus v).bus = v := rfl
@[simp] theorem State.setBus_exit : (s.setBus v).exit = s.exit := rfl
@[simp] theorem State.setBus_inputs : (s.setBus v).inputs = s.inputs := rfl
@[simp] theorem State.setBus_traffic : (s.setBus v).traffic = s.traffic := rfl
end

section
variable (v : Option RunExit)
@[simp] theorem State.setExit_pc : (s.setExit v).pc = s.pc := rfl
@[simp] theorem State.setExit_sp : (s.setExit v).sp = s.sp := rfl
@[simp] theorem State.setExit_a : (s.setExit v).a = s.a := rfl
@[simp] theorem State.setExit_x : (s.setExit v).x = s.x := rfl
@[simp] theorem State.setExit_y : (s.setExit v).y = s.y := rfl
@[simp] theorem State.setExit_flags : (s.setExit v).flags = s.flags := rfl
@[simp] theorem State.setExit_nmiPending : (s.setExit v).nmiPending = s.nmiPending := rfl
@[simp] theorem State.setExit_irqPending : (s.setExit v).irqPending = s.irqPending := rfl
@[simp] theorem State.setExit_servicing : (s.setExit v).servicing = s.servicing := rfl
@[simp] theorem State.setExit_haltReason : (s.setExit v).haltReason = s.haltReason := rfl
@[simp] theorem State.setExit_invalidOpcodeCount : (s.setExit v).invalidOpcodeCount = s.invalidOpcodeCount := rfl
@[simp] theorem State.setExit_bus : (s.setExit v).bus = s.bus := rfl
@[simp] theorem State.setExit_exit : (s.setExit v).exit = v := rfl
@[simp] theorem State.setExit_inputs : (s.setExit v).inputs = s.inputs := rfl
@[simp] theorem State.setExit_traffic : (s.setExit v).traffic = s.traffic := rfl
end

section
variable (v : List HostInput)
@[simp] theorem State.setInputs_pc : (s.setInputs v).pc = s.pc := rfl
@[simp] theorem State.setInputs_sp : (s.setInputs v).sp = s.sp := rfl
@[simp] theorem State.setInputs_a : (s.setInputs v).a = s.a := rfl
@[simp] theorem State.setInputs_x : (s.setInputs v).x = s.x := rfl
@[simp] theorem State.setInputs_y : (s.setInputs v).y = s.y := rfl
@[simp] theorem State.setInputs_flags : (s.setInputs v).flags = s.flags := rfl
@[simp] theorem State.setInputs_nmiPending : (s.setInputs v).nmiPending = s.nmiPending := rfl
@[simp] theorem State.setInputs_irqPending : (s.setInputs v).irqPending = s.irqPending := rfl
@[simp] theorem State.setInputs_servicing : (s.setInputs v).servicing = s.servicing := rfl
@[simp] theorem State.setInputs_haltReason : (s.setInputs v).haltReason = s.haltReason := rfl
@[simp] theorem State.setInputs_invalidOpcodeCount : (s.setInputs v).invalidOpcodeCount = s.invalidOpcodeCount := rfl
@[simp] theorem State.setInputs_bus : (s.setInputs v).bus = s.bus := rfl
@[simp] theorem State.setInputs_exit : (s.setInputs v).exit = s.exit := rfl
@[simp] theorem State.setInputs_inputs : (s.setInputs v).inputs = v := rfl
@[simp] theorem State.setInputs_traffic : (s.setInputs v).traffic = s.traffic := rfl
end

section
variable (v : List DeviceCall)
@[simp] theorem State.setTraffic_pc : (s.setTraffic v).pc = s.pc := rfl
@[simp] theorem State.setTraffic_sp : (s.setTraffic v).sp = s.sp := rfl
@[simp] theorem State.setTraffic_a : (s.setTraffic v).a = s.a := rfl
@[simp] theorem State.setTraffic_x : (s.setTraffic v).x = s.x := rfl
@[simp] theorem State.setTraffic_y : (s.setTraffic v).y = s.y := rfl
@[simp] theorem State.setTraffic_flags : (s.setTraffic v).flags = s.flags := rfl
@[simp] theorem State.setTraffic_nmiPending : (s.setTraffic v).nmiPending = s.nmiPending := rfl
@[simp] theorem State.setTraffic_irqPending : (s.setTraffic v).irqPending = s.irqPending := rfl
@[simp] theorem State.setTraffic_servicing : (s.setTraffic v).servicing = s.servicing := rfl
@[simp] theorem State.setTraffic_haltReason : (s.setTraffic v).haltReason = s.haltReason := rfl
@[simp] theorem State.setTraffic_invalidOpcodeCount : (s.setTraffic v).invalidOpcodeCount = s.invalidOpcodeCount := rfl
@[simp] theorem State.setTraffic_bus : (s.setTraffic v).bus = s.bus := rfl
@[simp] theorem State.setTraffic_exit : (s.setTraffic v).exit = s.exit := rfl
@[simp] theorem State.setTraffic_inputs : (s.setTraffic v).inputs = s.inputs := rfl
@[simp] theorem State.setTraffic_traffic : (s.setTraffic v).traffic = v := rfl
end

@[simp] theorem touchPeripheral_pc (c : DeviceCall) : (touchPeripheral c s).pc = s.pc := rfl
@[simp] theorem touchPeripheral_sp (c : DeviceCall) : (touchPeripheral c s).sp = s.sp := rfl
@[simp] theorem touchPeripheral_a (c : DeviceCall) : (touchPeripheral c s).a = s.a := rfl
@[simp] theorem touchPeripheral_x (c : DeviceCall) : (touchPeripheral c s).x = s.x := rfl
@[simp] theorem touchPeripheral_y (c : DeviceCall) : (touchPeripheral c s).y = s.y := rfl
@[simp] theorem touchPeripheral_flags (c : DeviceCall) : (touchPeripheral c s).flags = s.flags := rfl
@[simp] theorem touchPeripheral_servicing (c : DeviceCall) : (touchPeripheral c s).servicing = s.servicing := rfl
@[simp] theorem touchPeripheral_haltReason (c : DeviceCall) : (touchPeripheral c s).haltReason = s.haltReason := rfl
@[simp] theorem touchPeripheral_invalidOpcodeCount (c : DeviceCall) : (touchPeripheral c s).invalidOpcodeCount = s.invalidOpcodeCount := rfl
@[simp] theorem touchPeripheral_bus (c : DeviceCall) : (touchPeripheral c s).bus = s.bus := rfl
@[simp] theorem touchPeripheral_exit (c : DeviceCall) : (touchPeripheral c s).exit = s.exit := rfl
@[simp] theorem touchPeripheral_inputs (c : DeviceCall) : (touchPeripheral c s).inputs = s.inputs := rfl

@[simp] theorem State.peek_setBus (b : Bus) (a : Word) : (s.setBus b).peek a = b.peek a := rfl

/-- Two states with one bus show the same bytes. -/
theorem State.peek_congr {s t : State} (h : s.bus = t.bus) (a : Word) : s.peek a = t.peek a := by
  simp [State.peek, h]

end

end Sys2Proof.Machine
end

