-- ==== Sys2Proof/Laws/Memory.lean ====
section
/-! SUPPORT. The storage of a device and the routing of the bus: read after write, everything else unchanged, and the
canonical form kept by every operation. -/

namespace Sys2Proof.Machine

/-! ### One storage -/

theorem Memory.read_of_wfFrom_lt {size lo off : Nat} {m : List Host.Cell} (h : Memory.wfFrom size lo m = true)
    (ho : off < lo) : Memory.read m off = Config.unwrittenByte := by
  induction m generalizing lo with
  | nil => rfl
  | cons c rest ih =>
    obtain ⟨k, v⟩ := c
    simp only [Memory.wfFrom, Bool.and_eq_true, decide_eq_true_eq] at h
    have hk : k ≠ off := by omega
    simp only [Memory.read, hk, if_false]
    exact ih h.2 (by omega)

/-- A weaker lower bound. -/
theorem Memory.wfFrom_mono {size lo lo' : Nat} {m : List Host.Cell} (h : Memory.wfFrom size lo m = true) (hl : lo' ≤ lo) :
    Memory.wfFrom size lo' m = true := by
  cases m with
  | nil => rfl
  | cons c rest =>
    obtain ⟨k, v⟩ := c
    simp only [Memory.wfFrom, Bool.and_eq_true, decide_eq_true_eq] at h ⊢
    exact ⟨⟨⟨by omega, h.1.1.2⟩, h.1.2⟩, h.2⟩

/-- Every other offset reads as before. -/
theorem Memory.read_write_ne {off off' : Nat} (m : List Host.Cell) (v : Byte) (h : off' ≠ off) :
    Memory.read (Memory.write m off v) off' = Memory.read m off' := by
  induction m with
  | nil =>
    simp only [Memory.write]
    split <;> simp [Memory.read, Ne.symm h]
  | cons c rest ih =>
    obtain ⟨k, w⟩ := c
    simp only [Memory.write]
    split
    · split <;> simp [Memory.read, Ne.symm h]
    · split
      · rename_i hk
        split <;> simp [Memory.read, ← hk, Ne.symm h]
      · simp only [Memory.read, ih]

/-- The offset written reads as the byte written. -/
theorem Memory.read_write_self {size lo off : Nat} {m : List Host.Cell} (v : Byte)
    (h : Memory.wfFrom size lo m = true) : Memory.read (Memory.write m off v) off = v := by
  induction m generalizing lo with
  | nil =>
    simp only [Memory.write]
    split <;> simp_all [Memory.read]
  | cons c rest ih =>
    obtain ⟨k, w⟩ := c
    have hr : Memory.wfFrom size (k + 1) rest = true := by
      simp only [Memory.wfFrom, Bool.and_eq_true] at h; exact h.2
    simp only [Memory.write]
    split
    · rename_i hk
      split
      · rename_i hv
        have hne : k ≠ off := by omega
        simp only [Memory.read, hne, if_false, hv]
        exact Memory.read_of_wfFrom_lt hr (by omega)
      · simp [Memory.read]
    · split
      · rename_i hk
        split
        · rename_i hv
          rw [hv]
          exact Memory.read_of_wfFrom_lt hr (by omega)
        · simp [Memory.read]
      · rename_i hk
        have hne : k ≠ off := fun e => hk e.symm
        simp only [Memory.read, hne, if_false]
        exact ih hr

/-- A write inside the storage keeps the canonical form. -/
theorem Memory.wfFrom_write {size lo off : Nat} {m : List Host.Cell} (v : Byte) (h : Memory.wfFrom size lo m = true)
    (hl : lo ≤ off) (ho : off < size) : Memory.wfFrom size lo (Memory.write m off v) = true := by
  induction m generalizing lo with
  | nil =>
    simp only [Memory.write]
    split
    · rfl
    · simp_all [Memory.wfFrom]
  | cons c rest ih =>
    obtain ⟨k, w⟩ := c
    have h' := h
    simp only [Memory.wfFrom, Bool.and_eq_true, decide_eq_true_eq] at h
    simp only [Memory.write]
    split
    · split
      · exact h'
      · rename_i hk hv
        simp only [Memory.wfFrom, Bool.and_eq_true, decide_eq_true_eq, bne_iff_ne]
        exact ⟨⟨⟨hl, ho⟩, hv⟩, ⟨⟨by omega, h.1.1.2⟩, by simpa using h.1.2⟩, h.2⟩
    · split
      · rename_i hk
        subst hk
        split
        · exact Memory.wfFrom_mono h.2 (by omega)
        · rename_i hv
          simp only [Memory.wfFrom, Bool.and_eq_true, decide_eq_true_eq, bne_iff_ne]
          exact ⟨⟨⟨hl, ho⟩, hv⟩, h.2⟩
      · simp only [Memory.wfFrom, Bool.and_eq_true, decide_eq_true_eq]
        exact ⟨h.1, ih h.2 (by omega)⟩

/-- `Memory.write` keeps `Memory.wf`. -/
theorem Memory.wf_write {size off : Nat} {m : List Host.Cell} (v : Byte) (h : Memory.wf size m = true) (ho : off < size) :
    Memory.wf size (Memory.write m off v) = true :=
  Memory.wfFrom_write v h (Nat.zero_le _) ho

/-! ### One device -/

@[simp] theorem Device.store_kind (d : Device) (off : Nat) (v : Byte) : (d.store off v).kind = d.kind := by
  unfold Device.store; split <;> rfl
@[simp] theorem Device.store_base (d : Device) (off : Nat) (v : Byte) : (d.store off v).base = d.base := by
  unfold Device.store; split <;> rfl
@[simp] theorem Device.store_size (d : Device) (off : Nat) (v : Byte) : (d.store off v).size = d.size := by
  unfold Device.store; split <;> rfl
@[simp] theorem Device.store_canRead (d : Device) (off : Nat) (v : Byte) : (d.store off v).canRead = d.canRead := by
  unfold Device.store; split <;> rfl
@[simp] theorem Device.store_canWrite (d : Device) (off : Nat) (v : Byte) : (d.store off v).canWrite = d.canWrite := by
  unfold Device.store; split <;> rfl
@[simp] theorem Device.store_covers (d : Device) (off : Nat) (v : Byte) (a : Nat) :
    (d.store off v).covers a = d.covers a := by simp [Device.covers]
@[simp] theorem Device.store_isStorage (d : Device) (off : Nat) (v : Byte) :
    (d.store off v).isStorage = d.isStorage := by simp [Device.isStorage]

/-- A device that cannot write keeps its bytes (spec/20_memory.md R44, R58). -/
theorem Device.store_of_readOnly {d : Device} (off : Nat) (v : Byte) (h : d.canWrite = false) : d.store off v = d := by
  simp [Device.store, h]

theorem Device.load_store_ne {off off' : Nat} (d : Device) (v : Byte) (h : off' ≠ off) :
    (d.store off v).load off' = d.load off' := by
  unfold Device.store Device.load
  split
  · exact Memory.read_write_ne _ _ h
  · rfl

theorem Device.wf_store {d : Device} {off : Nat} (v : Byte) (h : d.wf = true) (ho : off < d.size) :
    (d.store off v).wf = true := by
  unfold Device.store
  split
  · simp only [Device.wf, Bool.and_eq_true] at h ⊢
    exact ⟨h.1, Memory.wf_write v h.2 ho⟩
  · exact h

/-! ### The bus -/

/-- The owner of the slot after a write: the same device, with the byte stored. -/
theorem ownerIn_storeIn_self (ds : List Device) (a : Nat) (v : Byte) :
    ownerIn (storeIn ds a v) a = (ownerIn ds a).map (fun d => d.store (a - d.base) v) := by
  induction ds with
  | nil => rfl
  | cons d rest ih =>
    simp only [storeIn, ownerIn]
    split
    · rename_i h; simp [ownerIn, h]
    · rename_i h; simp [ownerIn, h, ih]

theorem ownerIn_covers {ds : List Device} {a : Nat} {d : Device} (h : ownerIn ds a = some d) : d.covers a = true := by
  induction ds with
  | nil => simp [ownerIn] at h
  | cons e rest ih =>
    simp only [ownerIn] at h
    split at h
    · rename_i hc; cases h; exact hc
    · exact ih h

/-- Through the bus an offset is inside its device: a device is never misused (spec/20_memory.md R59). -/
theorem ownerIn_offset_lt {ds : List Device} {a : Nat} {d : Device} (h : ownerIn ds a = some d) :
    a - d.base < d.size := by
  have hc := ownerIn_covers h
  simp only [Device.covers, Bool.and_eq_true, decide_eq_true_eq] at hc
  omega

/-- The byte that a list of devices shows at an address. -/
theorem peekIn_storeIn_ne (ds : List Device) {a a' : Nat} (v : Byte) (h : a' ≠ a) :
    (ownerIn (storeIn ds a v) a').map (fun d => (d.canRead, d.load (a' - d.base))) =
      (ownerIn ds a').map (fun d => (d.canRead, d.load (a' - d.base))) := by
  induction ds with
  | nil => rfl
  | cons d rest ih =>
    simp only [storeIn]
    split
    · rename_i hc
      simp only [ownerIn, Device.store_covers]
      split
      · rename_i hc'
        simp only [Device.covers, Bool.and_eq_true, decide_eq_true_eq] at hc hc'
        have hne : a' - d.base ≠ a - d.base := by omega
        simp [Device.load_store_ne d v hne]
      · rfl
    · simp only [ownerIn]
      split
      · rfl
      · exact ih

/-- `Bus.peek` from the owner's right and byte. -/
theorem Bus.peek_eq (b : Bus) (a : Word) :
    b.peek a = match (ownerIn b.devices a.toNat).map (fun d => (d.canRead, d.load (a.toNat - d.base))) with
      | none => Config.silentByte
      | some (r, v) => if r then v else Config.silentByte := by
  unfold Bus.peek Bus.owner
  cases ownerIn b.devices a.toNat <;> rfl

/-- Every other address reads as before (spec/20_memory.md R44). -/
theorem Bus.peek_write_ne (b : Bus) {a a' : Word} (v : Byte) (h : a' ≠ a) : (b.write a v).peek a' = b.peek a' := by
  have hn : a'.toNat ≠ a.toNat := fun e => h (BitVec.eq_of_toNat_eq e)
  simp only [Bus.peek_eq, Bus.write, peekIn_storeIn_ne _ v hn]

/-- The address written reads as the byte written, where its owner is a RAM, or a ROM in burn mode (spec/20_memory.md R58). -/
theorem Bus.peek_write_self {b : Bus} {a : Word} {d : Device} (v : Byte) (hw : b.wf = true) (ho : b.owner a = some d)
    (hr : d.canRead = true) (hcw : d.canWrite = true) (hs : d.isStorage = true) : (b.write a v).peek a = v := by
  unfold Bus.owner at ho
  simp only [Bus.peek_eq, Bus.write, ownerIn_storeIn_self, ho, Option.map_some, Device.store_canRead, hr, if_true,
    Device.store_base]
  have hmem : d ∈ b.devices := by
    clear hw
    revert ho
    induction b.devices with
    | nil => simp [ownerIn]
    | cons e rest ih =>
      simp only [ownerIn]
      split
      · intro h; cases h; exact List.mem_cons_self
      · intro h; exact List.mem_cons_of_mem _ (ih h)
  have hd : d.wf = true := by
    simp only [Bus.wf, List.all_eq_true] at hw
    exact hw d hmem
  simp only [Device.wf, Bool.and_eq_true] at hd
  simp only [Device.store, hcw, hs, Bool.and_self, if_true, Device.load]
  exact Memory.read_write_self v hd.2

/-- Whatever a store leaves alone in a device, a bus write leaves alone in the owner of every slot. -/
theorem ownerIn_storeIn_map {α : Type} (f : Device → α) (hf : ∀ d off v, f (Device.store d off v) = f d)
    (ds : List Device) (a a' : Nat) (v : Byte) :
    (ownerIn (storeIn ds a v) a').map f = (ownerIn ds a').map f := by
  induction ds with
  | nil => rfl
  | cons d rest ih =>
    simp only [storeIn]
    split
    · simp only [ownerIn, Device.store_covers]
      split
      · simp [hf]
      · rfl
    · simp only [ownerIn]
      split
      · rfl
      · exact ih

theorem Bus.plainAt_eq (b : Bus) (a : Word) :
    b.plainAt a = ((ownerIn b.devices a.toNat).map Device.isStorage).getD true := by
  unfold Bus.plainAt Bus.owner
  cases ownerIn b.devices a.toNat <;> rfl

/-- Which slots peripherals own does not change. -/
@[simp] theorem Bus.plainAt_write (b : Bus) (a a' : Word) (v : Byte) : (b.write a v).plainAt a' = b.plainAt a' := by
  simp only [Bus.plainAt_eq, Bus.write]
  rw [ownerIn_storeIn_map _ Device.store_isStorage]

theorem storeIn_wf {ds : List Device} (a : Nat) (v : Byte) (h : ds.all Device.wf = true) :
    (storeIn ds a v).all Device.wf = true := by
  induction ds with
  | nil => rfl
  | cons d rest ih =>
    simp only [List.all_cons, Bool.and_eq_true] at h
    simp only [storeIn]
    split
    · rename_i hc
      simp only [Device.covers, Bool.and_eq_true, decide_eq_true_eq] at hc
      simp only [List.all_cons, Bool.and_eq_true]
      exact ⟨Device.wf_store v h.1 (by omega), h.2⟩
    · simp only [List.all_cons, Bool.and_eq_true]
      exact ⟨h.1, ih h.2⟩

/-- A bus write keeps every device in canonical form. -/
theorem Bus.wf_write {b : Bus} (a : Word) (v : Byte) (h : b.wf = true) : (b.write a v).wf = true :=
  storeIn_wf a.toNat v h

end Sys2Proof.Machine
end

