-- ==== Sys2Proof/Laws/Ops.lean ====
section
/-! SUPPORT. What each shared operation can do, said once: every field it leaves alone, and the value of every field it
writes. -/

namespace Sys2Proof.Machine

section
variable (s : State)

/-- What a call of a device for a read can do: nothing to the state, or one call of a peripheral. -/
theorem deviceRead_cases (d : Device) (off : Nat) :
    (d.isStorage = true ∧ d.read off s = (d.load off, s)) ∨
    ∃ n, d.kind = .peripheral n ∧ d.read off s =
      (Config.peripheralByte { device := n, offset := off, action := .read } s.traffic,
        touchPeripheral { device := n, offset := off, action := .read } s) := by
  unfold Device.read Device.isStorage
  cases d.kind <;> simp

/-- A read of a RAM or a ROM is the byte it holds. -/
theorem deviceRead_storage {d : Device} (off : Nat) (h : d.isStorage = true) : d.read off s = (d.load off, s) := by
  unfold Device.isStorage at h
  unfold Device.read
  cases hk : d.kind <;> simp_all

/-- A write of a RAM or a ROM does nothing outside its storage. -/
theorem deviceHanded_storage {d : Device} (off : Nat) (v : Byte) (h : d.isStorage = true) : d.handed off v s = s := by
  unfold Device.isStorage at h
  unfold Device.handed
  cases hk : d.kind <;> simp_all

/-- What a call of a device for a write can do outside its storage: nothing, or one call of a peripheral. -/
theorem deviceHanded_cases (d : Device) (off : Nat) (v : Byte) :
    (d.isStorage = true ∧ d.handed off v s = s) ∨
    ∃ n, d.kind = .peripheral n ∧
      d.handed off v s = touchPeripheral { device := n, offset := off, action := .write v } s := by
  unfold Device.handed Device.isStorage
  cases d.kind <;> simp

/-- A bus read leaves no trace, or is one call of the readable peripheral that owns the slot. -/
theorem busRead_state (a : Word) :
    (busRead a s).2 = s ∨
    ∃ d n, s.bus.owner a = some d ∧ d.kind = .peripheral n ∧ d.canRead = true ∧
      (busRead a s).2 = touchPeripheral { device := n, offset := a.toNat - d.base, action := .read } s := by
  unfold busRead
  split
  · exact .inl rfl
  · rename_i d hd
    split
    · rename_i hr
      rcases deviceRead_cases s d (a.toNat - d.base) with ⟨_, h⟩ | ⟨n, hk, h⟩ <;> rw [h]
      · exact .inl rfl
      · exact .inr ⟨d, n, hd, hk, hr, rfl⟩
    · exact .inl rfl

/-- A read of a slot that no peripheral owns gives the byte that is there and leaves no trace. -/
theorem busRead_plain {a : Word} {s : State} (h : s.plainAt a = true) : busRead a s = (s.peek a, s) := by
  unfold State.plainAt Bus.plainAt at h
  unfold busRead State.peek Bus.peek
  cases ho : s.bus.owner a with
  | none => rfl
  | some d =>
    rw [ho] at h
    simp only [deviceRead_storage s _ h]
    split <;> rfl

/-- A bus write is the write of the bus, and perhaps one call of the writable peripheral that owns the slot. -/
theorem busWrite_state (a : Word) (v : Byte) :
    busWrite a v s = s.setBus (s.bus.write a v) ∨
    ∃ d n, s.bus.owner a = some d ∧ d.kind = .peripheral n ∧ d.canWrite = true ∧
      busWrite a v s =
        touchPeripheral { device := n, offset := a.toNat - d.base, action := .write v } (s.setBus (s.bus.write a v)) := by
  unfold busWrite
  split
  · exact .inl rfl
  · rename_i d hd
    split
    · rename_i hw
      rcases deviceHanded_cases (s.setBus (s.bus.write a v)) d (a.toNat - d.base) v with ⟨_, h⟩ | ⟨n, hk, h⟩ <;> rw [h]
      · exact .inl rfl
      · exact .inr ⟨d, n, hd, hk, hw, rfl⟩
    · exact .inl rfl

/-- A write of a slot that no peripheral owns is the write of the bus. -/
theorem busWrite_plain {a : Word} {s : State} (v : Byte) (h : s.plainAt a = true) :
    busWrite a v s = s.setBus (s.bus.write a v) := by
  unfold State.plainAt Bus.plainAt at h
  unfold busWrite
  cases ho : s.bus.owner a with
  | none => rfl
  | some d =>
    rw [ho] at h
    simp [deviceHanded_storage _ _ _ h]

@[simp] theorem busRead_pc (a : Word) : (busRead a s).2.pc = s.pc := by
  rcases busRead_state s a with h | ⟨_, _, _, _, _, h⟩ <;> simp [h]
@[simp] theorem busRead_sp (a : Word) : (busRead a s).2.sp = s.sp := by
  rcases busRead_state s a with h | ⟨_, _, _, _, _, h⟩ <;> simp [h]
@[simp] theorem busRead_a (a : Word) : (busRead a s).2.a = s.a := by
  rcases busRead_state s a with h | ⟨_, _, _, _, _, h⟩ <;> simp [h]
@[simp] theorem busRead_x (a : Word) : (busRead a s).2.x = s.x := by
  rcases busRead_state s a with h | ⟨_, _, _, _, _, h⟩ <;> simp [h]
@[simp] theorem busRead_y (a : Word) : (busRead a s).2.y = s.y := by
  rcases busRead_state s a with h | ⟨_, _, _, _, _, h⟩ <;> simp [h]
@[simp] theorem busRead_flags (a : Word) : (busRead a s).2.flags = s.flags := by
  rcases busRead_state s a with h | ⟨_, _, _, _, _, h⟩ <;> simp [h]
@[simp] theorem busRead_servicing (a : Word) : (busRead a s).2.servicing = s.servicing := by
  rcases busRead_state s a with h | ⟨_, _, _, _, _, h⟩ <;> simp [h]
@[simp] theorem busRead_haltReason (a : Word) : (busRead a s).2.haltReason = s.haltReason := by
  rcases busRead_state s a with h | ⟨_, _, _, _, _, h⟩ <;> simp [h]
@[simp] theorem busRead_invalidOpcodeCount (a : Word) : (busRead a s).2.invalidOpcodeCount = s.invalidOpcodeCount := by
  rcases busRead_state s a with h | ⟨_, _, _, _, _, h⟩ <;> simp [h]
@[simp] theorem busRead_bus (a : Word) : (busRead a s).2.bus = s.bus := by
  rcases busRead_state s a with h | ⟨_, _, _, _, _, h⟩ <;> simp [h]
@[simp] theorem busRead_exit (a : Word) : (busRead a s).2.exit = s.exit := by
  rcases busRead_state s a with h | ⟨_, _, _, _, _, h⟩ <;> simp [h]
@[simp] theorem busRead_inputs (a : Word) : (busRead a s).2.inputs = s.inputs := by
  rcases busRead_state s a with h | ⟨_, _, _, _, _, h⟩ <;> simp [h]
@[simp] theorem busWrite_pc (a : Word) (v : Byte) : (busWrite a v s).pc = s.pc := by
  rcases busWrite_state s a v with h | ⟨_, _, _, _, _, h⟩ <;> simp [h]
@[simp] theorem busWrite_sp (a : Word) (v : Byte) : (busWrite a v s).sp = s.sp := by
  rcases busWrite_state s a v with h | ⟨_, _, _, _, _, h⟩ <;> simp [h]
@[simp] theorem busWrite_a (a : Word) (v : Byte) : (busWrite a v s).a = s.a := by
  rcases busWrite_state s a v with h | ⟨_, _, _, _, _, h⟩ <;> simp [h]
@[simp] theorem busWrite_x (a : Word) (v : Byte) : (busWrite a v s).x = s.x := by
  rcases busWrite_state s a v with h | ⟨_, _, _, _, _, h⟩ <;> simp [h]
@[simp] theorem busWrite_y (a : Word) (v : Byte) : (busWrite a v s).y = s.y := by
  rcases busWrite_state s a v with h | ⟨_, _, _, _, _, h⟩ <;> simp [h]
@[simp] theorem busWrite_flags (a : Word) (v : Byte) : (busWrite a v s).flags = s.flags := by
  rcases busWrite_state s a v with h | ⟨_, _, _, _, _, h⟩ <;> simp [h]
@[simp] theorem busWrite_servicing (a : Word) (v : Byte) : (busWrite a v s).servicing = s.servicing := by
  rcases busWrite_state s a v with h | ⟨_, _, _, _, _, h⟩ <;> simp [h]
@[simp] theorem busWrite_haltReason (a : Word) (v : Byte) : (busWrite a v s).haltReason = s.haltReason := by
  rcases busWrite_state s a v with h | ⟨_, _, _, _, _, h⟩ <;> simp [h]
@[simp] theorem busWrite_invalidOpcodeCount (a : Word) (v : Byte) : (busWrite a v s).invalidOpcodeCount = s.invalidOpcodeCount := by
  rcases busWrite_state s a v with h | ⟨_, _, _, _, _, h⟩ <;> simp [h]
@[simp] theorem busWrite_exit (a : Word) (v : Byte) : (busWrite a v s).exit = s.exit := by
  rcases busWrite_state s a v with h | ⟨_, _, _, _, _, h⟩ <;> simp [h]
@[simp] theorem busWrite_inputs (a : Word) (v : Byte) : (busWrite a v s).inputs = s.inputs := by
  rcases busWrite_state s a v with h | ⟨_, _, _, _, _, h⟩ <;> simp [h]
@[simp] theorem busWrite_bus (a : Word) (v : Byte) : (busWrite a v s).bus = s.bus.write a v := by
  rcases busWrite_state s a v with h | ⟨_, _, _, _, _, h⟩ <;> simp [h]
@[simp] theorem readWord_pc (a : Word) : ((readWord a s).2).pc = s.pc := by simp [readWord]
@[simp] theorem readWord_sp (a : Word) : ((readWord a s).2).sp = s.sp := by simp [readWord]
@[simp] theorem readWord_a (a : Word) : ((readWord a s).2).a = s.a := by simp [readWord]
@[simp] theorem readWord_x (a : Word) : ((readWord a s).2).x = s.x := by simp [readWord]
@[simp] theorem readWord_y (a : Word) : ((readWord a s).2).y = s.y := by simp [readWord]
@[simp] theorem readWord_flags (a : Word) : ((readWord a s).2).flags = s.flags := by simp [readWord]
@[simp] theorem readWord_servicing (a : Word) : ((readWord a s).2).servicing = s.servicing := by simp [readWord]
@[simp] theorem readWord_haltReason (a : Word) : ((readWord a s).2).haltReason = s.haltReason := by simp [readWord]
@[simp] theorem readWord_invalidOpcodeCount (a : Word) : ((readWord a s).2).invalidOpcodeCount = s.invalidOpcodeCount := by simp [readWord]
@[simp] theorem readWord_bus (a : Word) : ((readWord a s).2).bus = s.bus := by simp [readWord]
@[simp] theorem readWord_exit (a : Word) : ((readWord a s).2).exit = s.exit := by simp [readWord]
@[simp] theorem readWord_inputs (a : Word) : ((readWord a s).2).inputs = s.inputs := by simp [readWord]
@[simp] theorem writeWord_pc (a w : Word) : (writeWord a w s).pc = s.pc := by simp [writeWord]
@[simp] theorem writeWord_sp (a w : Word) : (writeWord a w s).sp = s.sp := by simp [writeWord]
@[simp] theorem writeWord_a (a w : Word) : (writeWord a w s).a = s.a := by simp [writeWord]
@[simp] theorem writeWord_x (a w : Word) : (writeWord a w s).x = s.x := by simp [writeWord]
@[simp] theorem writeWord_y (a w : Word) : (writeWord a w s).y = s.y := by simp [writeWord]
@[simp] theorem writeWord_flags (a w : Word) : (writeWord a w s).flags = s.flags := by simp [writeWord]
@[simp] theorem writeWord_servicing (a w : Word) : (writeWord a w s).servicing = s.servicing := by simp [writeWord]
@[simp] theorem writeWord_haltReason (a w : Word) : (writeWord a w s).haltReason = s.haltReason := by simp [writeWord]
@[simp] theorem writeWord_invalidOpcodeCount (a w : Word) : (writeWord a w s).invalidOpcodeCount = s.invalidOpcodeCount := by simp [writeWord]
@[simp] theorem writeWord_exit (a w : Word) : (writeWord a w s).exit = s.exit := by simp [writeWord]
@[simp] theorem writeWord_inputs (a w : Word) : (writeWord a w s).inputs = s.inputs := by simp [writeWord]
@[simp] theorem writeWord_bus (a w : Word) :
    (writeWord a w s).bus = (s.bus.write a (lowByte w)).write (a + 1#16) (highByte w) := by simp [writeWord]

/-- A word read of two slots that no peripheral owns. -/
theorem readWord_plain {a : Word} {s : State} (h : s.plainAt a = true) (h1 : s.plainAt (a + 1#16) = true) :
    readWord a s = (wordOf (s.peek (a + 1#16)) (s.peek a), s) := by
  simp [readWord, busRead_plain h, busRead_plain h1]

@[simp] theorem fetch8_sp : ((fetch8 s).2).sp = s.sp := by simp [fetch8]
@[simp] theorem fetch8_a : ((fetch8 s).2).a = s.a := by simp [fetch8]
@[simp] theorem fetch8_x : ((fetch8 s).2).x = s.x := by simp [fetch8]
@[simp] theorem fetch8_y : ((fetch8 s).2).y = s.y := by simp [fetch8]
@[simp] theorem fetch8_flags : ((fetch8 s).2).flags = s.flags := by simp [fetch8]
@[simp] theorem fetch8_servicing : ((fetch8 s).2).servicing = s.servicing := by simp [fetch8]
@[simp] theorem fetch8_haltReason : ((fetch8 s).2).haltReason = s.haltReason := by simp [fetch8]
@[simp] theorem fetch8_invalidOpcodeCount : ((fetch8 s).2).invalidOpcodeCount = s.invalidOpcodeCount := by simp [fetch8]
@[simp] theorem fetch8_bus : ((fetch8 s).2).bus = s.bus := by simp [fetch8]
@[simp] theorem fetch8_exit : ((fetch8 s).2).exit = s.exit := by simp [fetch8]
@[simp] theorem fetch8_inputs : ((fetch8 s).2).inputs = s.inputs := by simp [fetch8]
@[simp] theorem fetch8_pc : (fetch8 s).2.pc = s.pc + 1#16 := by simp [fetch8]
@[simp] theorem fetch16_sp : ((fetch16 s).2).sp = s.sp := by simp [fetch16]
@[simp] theorem fetch16_a : ((fetch16 s).2).a = s.a := by simp [fetch16]
@[simp] theorem fetch16_x : ((fetch16 s).2).x = s.x := by simp [fetch16]
@[simp] theorem fetch16_y : ((fetch16 s).2).y = s.y := by simp [fetch16]
@[simp] theorem fetch16_flags : ((fetch16 s).2).flags = s.flags := by simp [fetch16]
@[simp] theorem fetch16_servicing : ((fetch16 s).2).servicing = s.servicing := by simp [fetch16]
@[simp] theorem fetch16_haltReason : ((fetch16 s).2).haltReason = s.haltReason := by simp [fetch16]
@[simp] theorem fetch16_invalidOpcodeCount : ((fetch16 s).2).invalidOpcodeCount = s.invalidOpcodeCount := by simp [fetch16]
@[simp] theorem fetch16_bus : ((fetch16 s).2).bus = s.bus := by simp [fetch16]
@[simp] theorem fetch16_exit : ((fetch16 s).2).exit = s.exit := by simp [fetch16]
@[simp] theorem fetch16_inputs : ((fetch16 s).2).inputs = s.inputs := by simp [fetch16]
@[simp] theorem fetch16_pc : (fetch16 s).2.pc = s.pc + 1#16 + 1#16 := by simp [fetch16]

/-- A fetch at a slot that no peripheral owns gives the byte that is there and advances PC. -/
theorem fetch8_plain {s : State} (h : s.plainAt s.pc = true) : fetch8 s = (s.peek s.pc, s.setPc (s.pc + 1#16)) := by
  simp [fetch8, busRead_plain h]

/-- A fetch of a word at two slots that no peripheral owns. -/
theorem fetch16_plain {s : State} (h : s.plainAt s.pc = true) (h1 : s.plainAt (s.pc + 1#16) = true) :
    fetch16 s = (wordOf (s.peek (s.pc + 1#16)) (s.peek s.pc), s.setPc (s.pc + 1#16 + 1#16)) := by
  have h2 : (s.setPc (s.pc + 1#16)).plainAt (s.setPc (s.pc + 1#16)).pc = true := h1
  simp only [fetch16, fetch8_plain h, fetch8_plain h2]
  rfl

@[simp] theorem halt_pc (r : HaltReason) : (halt r s).pc = s.pc := rfl
@[simp] theorem halt_sp (r : HaltReason) : (halt r s).sp = s.sp := rfl
@[simp] theorem halt_a (r : HaltReason) : (halt r s).a = s.a := rfl
@[simp] theorem halt_x (r : HaltReason) : (halt r s).x = s.x := rfl
@[simp] theorem halt_y (r : HaltReason) : (halt r s).y = s.y := rfl
@[simp] theorem halt_nmiPending (r : HaltReason) : (halt r s).nmiPending = s.nmiPending := rfl
@[simp] theorem halt_irqPending (r : HaltReason) : (halt r s).irqPending = s.irqPending := rfl
@[simp] theorem halt_servicing (r : HaltReason) : (halt r s).servicing = s.servicing := rfl
@[simp] theorem halt_invalidOpcodeCount (r : HaltReason) : (halt r s).invalidOpcodeCount = s.invalidOpcodeCount := rfl
@[simp] theorem halt_bus (r : HaltReason) : (halt r s).bus = s.bus := rfl
@[simp] theorem halt_exit (r : HaltReason) : (halt r s).exit = s.exit := rfl
@[simp] theorem halt_inputs (r : HaltReason) : (halt r s).inputs = s.inputs := rfl
@[simp] theorem halt_traffic (r : HaltReason) : (halt r s).traffic = s.traffic := rfl
@[simp] theorem halt_flags (r : HaltReason) : (halt r s).flags = { s.flags with b := true } := rfl
@[simp] theorem halt_haltReason (r : HaltReason) :
    (halt r s).haltReason = if s.haltReason = .none then r else s.haltReason := rfl

@[simp] theorem push_pc (v : Byte) : (push v s).pc = s.pc := by
  unfold push; dsimp only; split <;> simp
@[simp] theorem push_a (v : Byte) : (push v s).a = s.a := by
  unfold push; dsimp only; split <;> simp
@[simp] theorem push_x (v : Byte) : (push v s).x = s.x := by
  unfold push; dsimp only; split <;> simp
@[simp] theorem push_y (v : Byte) : (push v s).y = s.y := by
  unfold push; dsimp only; split <;> simp
@[simp] theorem push_servicing (v : Byte) : (push v s).servicing = s.servicing := by
  unfold push; dsimp only; split <;> simp
@[simp] theorem push_invalidOpcodeCount (v : Byte) : (push v s).invalidOpcodeCount = s.invalidOpcodeCount := by
  unfold push; dsimp only; split <;> simp
@[simp] theorem push_exit (v : Byte) : (push v s).exit = s.exit := by
  unfold push; dsimp only; split <;> simp
@[simp] theorem push_inputs (v : Byte) : (push v s).inputs = s.inputs := by
  unfold push; dsimp only; split <;> simp

/-- SP goes down by one modulo 256, also when the push overflows (spec/45_stack.md R191). -/
@[simp] theorem push_sp (v : Byte) : (push v s).sp = s.sp - 1#8 := by
  unfold push; dsimp only; split
  · rename_i h; simp [h]
  · simp

@[simp] theorem push_bus (v : Byte) : (push v s).bus = s.bus.write (stackAddr s.sp) v := by
  unfold push; dsimp only; split <;> simp

theorem push_flags (v : Byte) : (push v s).flags = if s.sp = 0x00#8 then { s.flags with b := true } else s.flags := by
  unfold push; dsimp only; split <;> simp [*]

theorem push_haltReason (v : Byte) :
    (push v s).haltReason = if s.sp = 0x00#8 ∧ s.haltReason = .none then .stackOverflow else s.haltReason := by
  unfold push; dsimp only; split <;> simp_all

/-- A push that does not overflow is the write and the step of SP. -/
theorem push_of_ne {s : State} (v : Byte) (h : s.sp ≠ 0x00#8) :
    push v s = (busWrite (stackAddr s.sp) v s).setSp (s.sp - 1#8) := by
  simp [push, h]

@[simp] theorem pullStep_pc : (pullStep s).pc = s.pc := by
  unfold pullStep; split <;> simp
@[simp] theorem pullStep_a : (pullStep s).a = s.a := by
  unfold pullStep; split <;> simp
@[simp] theorem pullStep_x : (pullStep s).x = s.x := by
  unfold pullStep; split <;> simp
@[simp] theorem pullStep_y : (pullStep s).y = s.y := by
  unfold pullStep; split <;> simp
@[simp] theorem pullStep_servicing : (pullStep s).servicing = s.servicing := by
  unfold pullStep; split <;> simp
@[simp] theorem pullStep_invalidOpcodeCount : (pullStep s).invalidOpcodeCount = s.invalidOpcodeCount := by
  unfold pullStep; split <;> simp
@[simp] theorem pullStep_exit : (pullStep s).exit = s.exit := by
  unfold pullStep; split <;> simp
@[simp] theorem pullStep_inputs : (pullStep s).inputs = s.inputs := by
  unfold pullStep; split <;> simp
@[simp] theorem pullStep_bus : (pullStep s).bus = s.bus := by
  unfold pullStep; split <;> simp
@[simp] theorem pullStep_nmiPending : (pullStep s).nmiPending = s.nmiPending := by
  unfold pullStep; split <;> simp
@[simp] theorem pullStep_irqPending : (pullStep s).irqPending = s.irqPending := by
  unfold pullStep; split <;> simp
@[simp] theorem pullStep_traffic : (pullStep s).traffic = s.traffic := by
  unfold pullStep; split <;> simp

/-- SP goes up by one modulo 256, also when the pull underflows (spec/45_stack.md R192). -/
@[simp] theorem pullStep_sp : (pullStep s).sp = s.sp + 1#8 := by
  unfold pullStep pullUnderflows; split
  · rename_i h; simp at h; simp [h]
  · simp

theorem pullStep_flags : (pullStep s).flags = if s.sp = 0xFF#8 then { s.flags with b := true } else s.flags := by
  unfold pullStep pullUnderflows; split <;> simp_all

theorem pullStep_haltReason :
    (pullStep s).haltReason = if s.sp = 0xFF#8 ∧ s.haltReason = .none then .stackUnderflow else s.haltReason := by
  unfold pullStep pullUnderflows
  by_cases h : s.sp = 0xFF#8 <;> by_cases hr : s.haltReason = .none <;> simp [h, hr]

/-- A pull that does not underflow only steps SP before it reads. -/
theorem pullStep_of_ne {s : State} (h : s.sp ≠ 0xFF#8) : pullStep s = s.setSp (s.sp + 1#8) := by
  simp [pullStep, pullUnderflows, h]

@[simp] theorem pull_pc : ((pull s).2).pc = s.pc := by simp [pull]
@[simp] theorem pull_a : ((pull s).2).a = s.a := by simp [pull]
@[simp] theorem pull_x : ((pull s).2).x = s.x := by simp [pull]
@[simp] theorem pull_y : ((pull s).2).y = s.y := by simp [pull]
@[simp] theorem pull_servicing : ((pull s).2).servicing = s.servicing := by simp [pull]
@[simp] theorem pull_invalidOpcodeCount : ((pull s).2).invalidOpcodeCount = s.invalidOpcodeCount := by simp [pull]
@[simp] theorem pull_exit : ((pull s).2).exit = s.exit := by simp [pull]
@[simp] theorem pull_inputs : ((pull s).2).inputs = s.inputs := by simp [pull]
@[simp] theorem pull_bus : ((pull s).2).bus = s.bus := by simp [pull]
@[simp] theorem pull_sp : (pull s).2.sp = s.sp + 1#8 := by simp [pull]
theorem pull_flags : (pull s).2.flags = if s.sp = 0xFF#8 then { s.flags with b := true } else s.flags := by
  simp [pull, pullStep_flags]
theorem pull_haltReason :
    (pull s).2.haltReason = if s.sp = 0xFF#8 ∧ s.haltReason = .none then .stackUnderflow else s.haltReason := by
  simp [pull, pullStep_haltReason]

/-- A pull that neither underflows nor reaches a peripheral. -/
theorem pull_plain {s : State} (h : s.sp ≠ 0xFF#8) (hp : s.plainAt (stackAddr (s.sp + 1#8)) = true) :
    pull s = (s.peek (stackAddr (s.sp + 1#8)), s.setSp (s.sp + 1#8)) := by
  have h1 : (s.setSp (s.sp + 1#8)).plainAt (stackAddr (s.setSp (s.sp + 1#8)).sp) = true := hp
  simp only [pull, pullStep_of_ne h, busRead_plain h1]
  rfl

@[simp] theorem pushWord_pc (w : Word) : (pushWord w s).pc = s.pc := by simp [pushWord]
@[simp] theorem pushWord_a (w : Word) : (pushWord w s).a = s.a := by simp [pushWord]
@[simp] theorem pushWord_x (w : Word) : (pushWord w s).x = s.x := by simp [pushWord]
@[simp] theorem pushWord_y (w : Word) : (pushWord w s).y = s.y := by simp [pushWord]
@[simp] theorem pushWord_servicing (w : Word) : (pushWord w s).servicing = s.servicing := by simp [pushWord]
@[simp] theorem pushWord_invalidOpcodeCount (w : Word) : (pushWord w s).invalidOpcodeCount = s.invalidOpcodeCount := by simp [pushWord]
@[simp] theorem pushWord_exit (w : Word) : (pushWord w s).exit = s.exit := by simp [pushWord]
@[simp] theorem pushWord_inputs (w : Word) : (pushWord w s).inputs = s.inputs := by simp [pushWord]
@[simp] theorem pushWord_sp (w : Word) : (pushWord w s).sp = s.sp - 1#8 - 1#8 := by simp [pushWord]
@[simp] theorem pushWord_bus (w : Word) : (pushWord w s).bus =
    (s.bus.write (stackAddr s.sp) (highByte w)).write (stackAddr (s.sp - 1#8)) (lowByte w) := by simp [pushWord]
@[simp] theorem pullWord_pc : ((pullWord s).2).pc = s.pc := by simp [pullWord]
@[simp] theorem pullWord_a : ((pullWord s).2).a = s.a := by simp [pullWord]
@[simp] theorem pullWord_x : ((pullWord s).2).x = s.x := by simp [pullWord]
@[simp] theorem pullWord_y : ((pullWord s).2).y = s.y := by simp [pullWord]
@[simp] theorem pullWord_servicing : ((pullWord s).2).servicing = s.servicing := by simp [pullWord]
@[simp] theorem pullWord_invalidOpcodeCount : ((pullWord s).2).invalidOpcodeCount = s.invalidOpcodeCount := by simp [pullWord]
@[simp] theorem pullWord_exit : ((pullWord s).2).exit = s.exit := by simp [pullWord]
@[simp] theorem pullWord_inputs : ((pullWord s).2).inputs = s.inputs := by simp [pullWord]
@[simp] theorem pullWord_bus : ((pullWord s).2).bus = s.bus := by simp [pullWord]
@[simp] theorem pullWord_sp : (pullWord s).2.sp = s.sp + 1#8 + 1#8 := by simp [pullWord]
@[simp] theorem pullFlags_pc : (pullFlags s).pc = s.pc := by simp [pullFlags]
@[simp] theorem pullFlags_a : (pullFlags s).a = s.a := by simp [pullFlags]
@[simp] theorem pullFlags_x : (pullFlags s).x = s.x := by simp [pullFlags]
@[simp] theorem pullFlags_y : (pullFlags s).y = s.y := by simp [pullFlags]
@[simp] theorem pullFlags_servicing : (pullFlags s).servicing = s.servicing := by simp [pullFlags]
@[simp] theorem pullFlags_invalidOpcodeCount : (pullFlags s).invalidOpcodeCount = s.invalidOpcodeCount := by simp [pullFlags]
@[simp] theorem pullFlags_exit : (pullFlags s).exit = s.exit := by simp [pullFlags]
@[simp] theorem pullFlags_inputs : (pullFlags s).inputs = s.inputs := by simp [pullFlags]
@[simp] theorem pullFlags_bus : (pullFlags s).bus = s.bus := by simp [pullFlags]
@[simp] theorem pullFlags_sp : (pullFlags s).sp = s.sp + 1#8 := by simp [pullFlags]

@[simp] theorem effAddr_pc (m : MemOperand) : ((effAddr m s).2).pc = s.pc := by cases m <;> simp [effAddr]
@[simp] theorem effAddr_sp (m : MemOperand) : ((effAddr m s).2).sp = s.sp := by cases m <;> simp [effAddr]
@[simp] theorem effAddr_a (m : MemOperand) : ((effAddr m s).2).a = s.a := by cases m <;> simp [effAddr]
@[simp] theorem effAddr_x (m : MemOperand) : ((effAddr m s).2).x = s.x := by cases m <;> simp [effAddr]
@[simp] theorem effAddr_y (m : MemOperand) : ((effAddr m s).2).y = s.y := by cases m <;> simp [effAddr]
@[simp] theorem effAddr_flags (m : MemOperand) : ((effAddr m s).2).flags = s.flags := by cases m <;> simp [effAddr]
@[simp] theorem effAddr_servicing (m : MemOperand) : ((effAddr m s).2).servicing = s.servicing := by cases m <;> simp [effAddr]
@[simp] theorem effAddr_haltReason (m : MemOperand) : ((effAddr m s).2).haltReason = s.haltReason := by cases m <;> simp [effAddr]
@[simp] theorem effAddr_invalidOpcodeCount (m : MemOperand) : ((effAddr m s).2).invalidOpcodeCount = s.invalidOpcodeCount := by cases m <;> simp [effAddr]
@[simp] theorem effAddr_bus (m : MemOperand) : ((effAddr m s).2).bus = s.bus := by cases m <;> simp [effAddr]
@[simp] theorem effAddr_exit (m : MemOperand) : ((effAddr m s).2).exit = s.exit := by cases m <;> simp [effAddr]
@[simp] theorem effAddr_inputs (m : MemOperand) : ((effAddr m s).2).inputs = s.inputs := by cases m <;> simp [effAddr]
@[simp] theorem readOperand_pc (o : Operand) : ((readOperand o s).2).pc = s.pc := by cases o <;> simp [readOperand]
@[simp] theorem readOperand_sp (o : Operand) : ((readOperand o s).2).sp = s.sp := by cases o <;> simp [readOperand]
@[simp] theorem readOperand_a (o : Operand) : ((readOperand o s).2).a = s.a := by cases o <;> simp [readOperand]
@[simp] theorem readOperand_x (o : Operand) : ((readOperand o s).2).x = s.x := by cases o <;> simp [readOperand]
@[simp] theorem readOperand_y (o : Operand) : ((readOperand o s).2).y = s.y := by cases o <;> simp [readOperand]
@[simp] theorem readOperand_flags (o : Operand) : ((readOperand o s).2).flags = s.flags := by cases o <;> simp [readOperand]
@[simp] theorem readOperand_servicing (o : Operand) : ((readOperand o s).2).servicing = s.servicing := by cases o <;> simp [readOperand]
@[simp] theorem readOperand_haltReason (o : Operand) : ((readOperand o s).2).haltReason = s.haltReason := by cases o <;> simp [readOperand]
@[simp] theorem readOperand_invalidOpcodeCount (o : Operand) : ((readOperand o s).2).invalidOpcodeCount = s.invalidOpcodeCount := by cases o <;> simp [readOperand]
@[simp] theorem readOperand_bus (o : Operand) : ((readOperand o s).2).bus = s.bus := by cases o <;> simp [readOperand]
@[simp] theorem readOperand_exit (o : Operand) : ((readOperand o s).2).exit = s.exit := by cases o <;> simp [readOperand]
@[simp] theorem readOperand_inputs (o : Operand) : ((readOperand o s).2).inputs = s.inputs := by cases o <;> simp [readOperand]
@[simp] theorem writeOperand_pc (m : MemOperand) (v : Byte) : (writeOperand m v s).pc = s.pc := by simp [writeOperand]
@[simp] theorem writeOperand_sp (m : MemOperand) (v : Byte) : (writeOperand m v s).sp = s.sp := by simp [writeOperand]
@[simp] theorem writeOperand_a (m : MemOperand) (v : Byte) : (writeOperand m v s).a = s.a := by simp [writeOperand]
@[simp] theorem writeOperand_x (m : MemOperand) (v : Byte) : (writeOperand m v s).x = s.x := by simp [writeOperand]
@[simp] theorem writeOperand_y (m : MemOperand) (v : Byte) : (writeOperand m v s).y = s.y := by simp [writeOperand]
@[simp] theorem writeOperand_flags (m : MemOperand) (v : Byte) : (writeOperand m v s).flags = s.flags := by simp [writeOperand]
@[simp] theorem writeOperand_servicing (m : MemOperand) (v : Byte) : (writeOperand m v s).servicing = s.servicing := by simp [writeOperand]
@[simp] theorem writeOperand_haltReason (m : MemOperand) (v : Byte) : (writeOperand m v s).haltReason = s.haltReason := by simp [writeOperand]
@[simp] theorem writeOperand_invalidOpcodeCount (m : MemOperand) (v : Byte) : (writeOperand m v s).invalidOpcodeCount = s.invalidOpcodeCount := by simp [writeOperand]
@[simp] theorem writeOperand_exit (m : MemOperand) (v : Byte) : (writeOperand m v s).exit = s.exit := by simp [writeOperand]
@[simp] theorem writeOperand_inputs (m : MemOperand) (v : Byte) : (writeOperand m v s).inputs = s.inputs := by simp [writeOperand]
@[simp] theorem writeOperand_bus (m : MemOperand) (v : Byte) :
    (writeOperand m v s).bus = s.bus.write (effAddr m s).1 v := by simp [writeOperand]

/-- A modify of a byte of memory writes back to the address it read (spec/41_addressing_modes.md R124). -/
theorem modifyOperand_bus (m : MemOperand) (r : Byte → Flags → Byte) (g : Byte → Flags → Flags) :
    (modifyOperand (.mem m) r g s).bus = s.bus.write (effAddr m s).1 (r (readOperand (.mem m) s).1 s.flags) := by
  simp [modifyOperand, readOperand]

/-- A modify of A makes no bus access. -/
@[simp] theorem modifyOperand_acc_bus (r : Byte → Flags → Byte) (g : Byte → Flags → Flags) :
    (modifyOperand .acc r g s).bus = s.bus := rfl

@[simp] theorem modifyOperand_pc (p : Place) (r : Byte → Flags → Byte) (g : Byte → Flags → Flags) :
    (modifyOperand p r g s).pc = s.pc := by cases p <;> simp [modifyOperand]
@[simp] theorem modifyOperand_sp (p : Place) (r : Byte → Flags → Byte) (g : Byte → Flags → Flags) :
    (modifyOperand p r g s).sp = s.sp := by cases p <;> simp [modifyOperand]
@[simp] theorem modifyOperand_x (p : Place) (r : Byte → Flags → Byte) (g : Byte → Flags → Flags) :
    (modifyOperand p r g s).x = s.x := by cases p <;> simp [modifyOperand]
@[simp] theorem modifyOperand_y (p : Place) (r : Byte → Flags → Byte) (g : Byte → Flags → Flags) :
    (modifyOperand p r g s).y = s.y := by cases p <;> simp [modifyOperand]
@[simp] theorem modifyOperand_servicing (p : Place) (r : Byte → Flags → Byte) (g : Byte → Flags → Flags) :
    (modifyOperand p r g s).servicing = s.servicing := by cases p <;> simp [modifyOperand]
@[simp] theorem modifyOperand_haltReason (p : Place) (r : Byte → Flags → Byte) (g : Byte → Flags → Flags) :
    (modifyOperand p r g s).haltReason = s.haltReason := by cases p <;> simp [modifyOperand]
@[simp] theorem modifyOperand_invalidOpcodeCount (p : Place) (r : Byte → Flags → Byte) (g : Byte → Flags → Flags) :
    (modifyOperand p r g s).invalidOpcodeCount = s.invalidOpcodeCount := by cases p <;> simp [modifyOperand]
@[simp] theorem modifyOperand_exit (p : Place) (r : Byte → Flags → Byte) (g : Byte → Flags → Flags) :
    (modifyOperand p r g s).exit = s.exit := by cases p <;> simp [modifyOperand]
@[simp] theorem modifyOperand_inputs (p : Place) (r : Byte → Flags → Byte) (g : Byte → Flags → Flags) :
    (modifyOperand p r g s).inputs = s.inputs := by cases p <;> simp [modifyOperand]
@[simp] theorem modifyOperand_mem_a (m : MemOperand) (r : Byte → Flags → Byte) (g : Byte → Flags → Flags) :
    (modifyOperand (.mem m) r g s).a = s.a := by simp [modifyOperand]
end

end Sys2Proof.Machine
end

