-- ==== Sys2Proof/Laws/Exec.lean ====
section
/-! SUPPORT. What an instruction and a step can do to the bus, said once. -/

namespace Sys2Proof.Machine

/-- From `s` the machine comes to a state by bus accesses and by changes that leave the bus and the traffic alone. -/
inductive Reached (s : State) : State → Prop where
  | refl : Reached s s
  | engine {t u : State} (h : Reached s t) (hb : u.bus = t.bus) (ht : u.traffic = t.traffic) : Reached s u
  | read {t : State} (a : Word) (h : Reached s t) : Reached s (busRead a t).2
  | write {t : State} (a : Word) (v : Byte) (h : Reached s t) : Reached s (busWrite a v t)

theorem Reached.trans {s t u : State} (h : Reached s t) (k : Reached t u) : Reached s u := by
  induction k with
  | refl => exact h
  | engine _ hb ht ih => exact .engine ih hb ht
  | read a _ ih => exact .read a ih
  | write a v _ ih => exact .write a v ih

/-- A relation between buses that holds of equal ones, of one write, and chains, holds between the start and the end. -/
theorem Reached.induct {P : Bus → Bus → Prop} (hr : ∀ b, P b b) (ht : ∀ b c d, P b c → P c d → P b d)
    (hw : ∀ b a v, P b (b.write a v)) {s t : State} (h : Reached s t) : P s.bus t.bus := by
  induction h with
  | refl => exact hr _
  | engine _ hb _ ih => rw [hb]; exact ih
  | read a _ ih => rw [busRead_bus]; exact ih
  | write a v _ ih => rw [busWrite_bus]; exact ht _ _ _ ih (hw _ _ _)

section
variable {s t : State} (h : Reached s t)
include h

theorem Reached.readWord (a : Word) : Reached s (readWord a t).2 := .read _ (.read _ h)

theorem Reached.fetch8 : Reached s (fetch8 t).2 := .engine (.read t.pc h) rfl rfl

theorem Reached.fetch16 : Reached s (fetch16 t).2 := h.fetch8.fetch8

theorem Reached.push (v : Byte) : Reached s (push v t) := by
  unfold Machine.push
  dsimp only
  split <;> exact .engine (.write (stackAddr t.sp) v h) rfl rfl

theorem Reached.pull : Reached s (pull t).2 := .read _ (.engine h (by simp) (by simp))

theorem Reached.pushWord (w : Word) : Reached s (pushWord w t) := (h.push _).push _

theorem Reached.pullWord : Reached s (pullWord t).2 := h.pull.pull

theorem Reached.pullFlags : Reached s (pullFlags t) := .engine h.pull rfl rfl

theorem Reached.effAddr (m : MemOperand) : Reached s (effAddr m t).2 := by
  cases m <;> first | exact h | exact h.readWord _

theorem Reached.readOperand (o : Operand) : Reached s (readOperand o t).2 := by
  cases o with
  | imm v => exact h
  | mem m => exact .read _ (h.effAddr m)

theorem Reached.writeOperand (m : MemOperand) (v : Byte) : Reached s (writeOperand m v t) := .write _ v (h.effAddr m)

theorem Reached.modifyOperand (p : Place) (r : Byte → Flags → Byte) (g : Byte → Flags → Flags) :
    Reached s (modifyOperand p r g t) := by
  cases p with
  | acc => exact .engine h rfl rfl
  | mem m => exact .engine (.write _ _ (.read _ (h.effAddr m))) rfl rfl

theorem Reached.fetchInstr : Reached s (fetchInstr t).2 := by
  unfold Machine.fetchInstr
  dsimp only
  split
  · exact h.fetch8
  · exact h.fetch8.fetch8
  · exact h.fetch8.fetch8
  · exact h.fetch8.fetch16

theorem Reached.interruptEntry (k : InterruptKind) : Reached s (interruptEntry k t) := by
  have hc : Reached s (pushContext t) := (h.pushWord _).push _
  unfold Machine.interruptEntry
  generalize pushContext t = u at hc
  have hm : Reached s (maskAtEntry k u) := .engine hc (by cases k <;> rfl) (by cases k <;> rfl)
  have hv := hm.readWord (vectorOf k)
  generalize Machine.readWord (vectorOf k) (maskAtEntry k u) = w at hv
  exact .engine hv (by cases k <;> rfl) (by cases k <;> rfl)

theorem Reached.returnFromInterrupt : Reached s (returnFromInterrupt t) :=
  .engine h.pullFlags.pullWord (by simp [Machine.returnFromInterrupt]) (by simp [Machine.returnFromInterrupt])

end

theorem fetchInstr_bus (s : State) : (fetchInstr s).2.bus = s.bus := by
  unfold fetchInstr
  dsimp only
  split <;> simp

theorem takeInput_bus (s : State) : (takeInput s).2.bus = s.bus := by
  unfold takeInput arrive
  split <;> simp

theorem takeInput_traffic (s : State) : (takeInput s).2.traffic = s.traffic := by
  unfold takeInput arrive
  split <;> simp

theorem endIteration_traffic (b : Bool) (r : StopRequest) (s : State) : (endIteration b r s).traffic = s.traffic := by
  unfold endIteration
  split
  · simp
  · split <;> simp

theorem endIteration_bus (b : Bool) (r : StopRequest) (s : State) : (endIteration b r s).bus = s.bus := by
  unfold endIteration
  split
  · simp
  · split <;> simp

/-- The end of an iteration touches `exit` only. -/
theorem endIteration_state (b : Bool) (r : StopRequest) (s : State) :
    endIteration b r s = s.setExit (endIteration b r s).exit := by
  unfold endIteration
  split
  · rfl
  · split <;> rfl

/-- Taking an input touches the inputs and the pending flags only, and clears no request. -/
theorem takeInput_state (s : State) :
    ∃ l p q, (takeInput s).2 = { s with inputs := l, nmiPending := p, irqPending := q } ∧
      (s.nmiPending = true → p = true) ∧ (s.irqPending = true → q = true) := by
  unfold takeInput arrive
  split
  · exact ⟨s.inputs, s.nmiPending, s.irqPending, rfl, id, id⟩
  · exact ⟨_, _, _, rfl, by simp +contextual, by simp +contextual⟩

/-- A bus read touches the pending flags and the count of free values only, and clears no request. -/
theorem busRead_frame (a : Word) (s : State) :
    ∃ p q n, (busRead a s).2 = { s with nmiPending := p, irqPending := q, traffic := n } ∧
      (s.nmiPending = true → p = true) ∧ (s.irqPending = true → q = true) := by
  rcases busRead_state (s := s) a with h | ⟨_, _, _, _, _, h⟩ <;> rw [h]
  · exact ⟨_, _, _, rfl, id, id⟩
  · exact ⟨_, _, _, rfl, by simp +contextual, by simp +contextual⟩

/-- A word read, a vector's too, touches what its two byte reads touch, and clears no request. -/
theorem readWord_frame (a : Word) (s : State) :
    ∃ p q n, (readWord a s).2 = { s with nmiPending := p, irqPending := q, traffic := n } ∧
      (s.nmiPending = true → p = true) ∧ (s.irqPending = true → q = true) := by
  obtain ⟨p, q, n, h, hp, hq⟩ := busRead_frame a s
  obtain ⟨p', q', n', h', hp', hq'⟩ := busRead_frame (a + 1#16) (busRead a s).2
  rw [h] at hp' hq'
  exact ⟨p', q', n', by simp only [readWord]; rw [h', h], fun k => hp' (hp k), fun k => hq' (hq k)⟩

/-- A bus write clears no request. -/
theorem busWrite_pending (a : Word) (v : Byte) (s : State) :
    (s.nmiPending = true → (busWrite a v s).nmiPending = true) ∧
    (s.irqPending = true → (busWrite a v s).irqPending = true) := by
  rcases busWrite_state (s := s) a v with h | ⟨_, _, _, _, _, h⟩ <;> rw [h] <;> simp +contextual [touchPeripheral]

theorem fetch8_frame (s : State) :
    ∃ c p q n, (fetch8 s).2 = { s with pc := c, nmiPending := p, irqPending := q, traffic := n } ∧
      (s.nmiPending = true → p = true) ∧ (s.irqPending = true → q = true) := by
  obtain ⟨p, q, n, h, hp, hq⟩ := busRead_frame s.pc s
  refine ⟨s.pc + 1#16, p, q, n, ?_, hp, hq⟩
  simp only [fetch8, h, State.setPc]

theorem fetch8_twice_frame (s : State) :
    ∃ c p q n, (fetch8 (fetch8 s).2).2 = { s with pc := c, nmiPending := p, irqPending := q, traffic := n } ∧
      (s.nmiPending = true → p = true) ∧ (s.irqPending = true → q = true) := by
  obtain ⟨c, p, q, n, h, hp, hq⟩ := fetch8_frame s
  obtain ⟨c', p', q', n', h', hp', hq'⟩ := fetch8_frame (fetch8 s).2
  rw [h] at hp' hq'
  exact ⟨c', p', q', n', by rw [h', h], fun k => hp' (hp k), fun k => hq' (hq k)⟩

/-- Fetching an instruction touches PC, the pending flags and the count of free values only, and clears no request. -/
theorem fetchInstr_frame (s : State) :
    ∃ c p q n, (fetchInstr s).2 = { s with pc := c, nmiPending := p, irqPending := q, traffic := n } ∧
      (s.nmiPending = true → p = true) ∧ (s.irqPending = true → q = true) := by
  unfold fetchInstr
  dsimp only
  split
  · exact fetch8_frame s
  · exact fetch8_twice_frame s
  · exact fetch8_twice_frame s
  · obtain ⟨c, p, q, n, h, hp, hq⟩ := fetch8_twice_frame s
    obtain ⟨c', p', q', n', h', hp', hq'⟩ := fetch8_frame (fetch8 (fetch8 s).2).2
    rw [h] at hp' hq'
    exact ⟨c', p', q', n', by simp only [fetch16]; rw [h', h], fun k => hp' (hp k), fun k => hq' (hq k)⟩

section
variable (s : State)

theorem lda_reached (o : Operand) : Reached s (lda o s) :=
  .engine (.readOperand .refl o) (by simp [lda, putNZ]) (by simp [lda, putNZ])

theorem ldx_reached (o : Operand) : Reached s (ldx o s) :=
  .engine (.readOperand .refl o) (by simp [ldx, putNZ]) (by simp [ldx, putNZ])

theorem ldy_reached (o : Operand) : Reached s (ldy o s) :=
  .engine (.readOperand .refl o) (by simp [ldy, putNZ]) (by simp [ldy, putNZ])

theorem andA_reached (o : Operand) : Reached s (andA o s) :=
  .engine (.readOperand .refl o) (by simp [andA, putNZ]) (by simp [andA, putNZ])

theorem oraA_reached (o : Operand) : Reached s (oraA o s) :=
  .engine (.readOperand .refl o) (by simp [oraA, putNZ]) (by simp [oraA, putNZ])

theorem eorA_reached (o : Operand) : Reached s (eorA o s) :=
  .engine (.readOperand .refl o) (by simp [eorA, putNZ]) (by simp [eorA, putNZ])

theorem adc_reached (o : Operand) : Reached s (adc o s) :=
  .engine (.readOperand .refl o) (by simp [adc]) (by simp [adc])

theorem sbc_reached (o : Operand) : Reached s (sbc o s) :=
  .engine (.readOperand .refl o) (by simp [sbc]) (by simp [sbc])

theorem cmpA_reached (o : Operand) : Reached s (cmpA o s) :=
  .engine (.readOperand .refl o) (by simp [cmpA]) (by simp [cmpA])

theorem cpx_reached (o : Operand) : Reached s (cpx o s) :=
  .engine (.readOperand .refl o) (by simp [cpx]) (by simp [cpx])

theorem cpy_reached (o : Operand) : Reached s (cpy o s) :=
  .engine (.readOperand .refl o) (by simp [cpy]) (by simp [cpy])

theorem bitTest_reached (m : MemOperand) : Reached s (bitTest m s) :=
  .engine (.readOperand .refl (.mem m)) (by simp [bitTest]) (by simp [bitTest])

theorem branch_reached (c : Bool) (off : Int) : Reached s (branch c off s) :=
  .engine .refl (by unfold branch; split <;> rfl) (by unfold branch; split <;> rfl)

theorem jmp_reached (m : MemOperand) : Reached s (jmp m s) := .engine (.effAddr .refl m) (by simp [jmp]) (by simp [jmp])

theorem jsr_reached (w : Word) : Reached s (jsr w s) := .engine (.pushWord .refl _) (by rfl) (by rfl)

theorem rts_reached : Reached s (rts s) := .engine (.pullWord .refl) (by simp [rts]) (by simp [rts])

theorem pla_reached : Reached s (pla s) := .engine (.pull .refl) (by simp [pla, putNZ]) (by simp [pla, putNZ])

end

/-- Everything an instruction can do to the bus and to the devices: bus accesses. -/
theorem exec_reached {i : Instr} {s t : State} (h : exec i s = .next t) : Reached s t := by
  cases i <;> cases h <;>
  (try simp only [sta, stx, sty, incMem, decMem, shift, pha, php, plp, rti, bpl, bmi, bvc, bvs, bcc, bcs, branchNe, beq]) <;>
  with_reducible first
    | exact lda_reached ..
    | exact ldx_reached ..
    | exact ldy_reached ..
    | exact andA_reached ..
    | exact oraA_reached ..
    | exact eorA_reached ..
    | exact adc_reached ..
    | exact sbc_reached ..
    | exact cmpA_reached ..
    | exact cpx_reached ..
    | exact cpy_reached ..
    | exact bitTest_reached ..
    | exact branch_reached ..
    | exact jmp_reached ..
    | exact jsr_reached ..
    | exact rts_reached ..
    | exact pla_reached ..
    | exact .writeOperand .refl ..
    | exact .modifyOperand .refl ..
    | exact .push .refl ..
    | exact .pullFlags .refl
    | exact .returnFromInterrupt .refl
    | exact .engine .refl (by with_unfolding_all rfl) (by with_unfolding_all rfl)

/-- The ways a step can answer a next state (spec/40_execution_loop.md R90). -/
inductive StepCase (s t : State) : Prop where
  /-- The loop is not running (R102). -/
  | notRunning (e : RunExit) (he : s.exit = some e) (ht : t = s)
  /-- The host stops the loop before anything else (R98). -/
  | stopped (e : RunExit) (he : s.exit = none)
      (hs : ((takeInput s).1.stop = .cancellation ∧ e = .cancelled) ∨ ((takeInput s).1.stop = .gateTimeout ∧ e = .gateTimeout))
      (ht : t = (takeInput s).2.setExit (some e))
  /-- An interrupt is entered (R245). -/
  | entered (k : InterruptKind) (he : s.exit = none)
      (hs : (takeInput s).1.stop = .keepRunning ∨ (takeInput s).1.stop = .deadline)
      (hk : interruptToTake (takeInput s).2 = some k)
      (ht : t = endIteration (takeInput s).2.flags.b (takeInput s).1.stop (interruptEntry k (takeInput s).2))
  /-- Nothing to enter, and the fetch is denied (R91). -/
  | idle (he : s.exit = none)
      (hs : (takeInput s).1.stop = .keepRunning ∨ (takeInput s).1.stop = .deadline)
      (hk : interruptToTake (takeInput s).2 = none) (hp : (takeInput s).1.fetchPermit = false)
      (ht : t = endIteration (takeInput s).2.flags.b (takeInput s).1.stop (takeInput s).2)
  /-- An instruction is fetched and executed (R94, R95). -/
  | executed (u : State) (he : s.exit = none)
      (hs : (takeInput s).1.stop = .keepRunning ∨ (takeInput s).1.stop = .deadline)
      (hk : interruptToTake (takeInput s).2 = none) (hp : (takeInput s).1.fetchPermit = true)
      (hx : exec (fetchInstr (takeInput s).2).1 (fetchInstr (takeInput s).2).2 = .next u)
      (ht : t = endIteration (takeInput s).2.flags.b (takeInput s).1.stop u)

/-- What a running iteration does, for the two inputs that do not stop it first. -/
theorem planRunning_cases {input : HostInput} {s t : State}
    (h : (match planRunning input s with
      | .finished t => .next t
      | .execute i t b r => match exec i t with
        | .next u => .next (endIteration b r u)
        | .fault f => .fault f
        | .refused r => .refused r : Host.Outcome State Fault Refusal) = .next t) :
    (∃ k, interruptToTake s = some k ∧ t = endIteration s.flags.b input.stop (interruptEntry k s)) ∨
    (interruptToTake s = none ∧ input.fetchPermit = false ∧ t = endIteration s.flags.b input.stop s) ∨
    (interruptToTake s = none ∧ input.fetchPermit = true ∧
      ∃ u, exec (fetchInstr s).1 (fetchInstr s).2 = .next u ∧ t = endIteration s.flags.b input.stop u) := by
  unfold planRunning at h
  cases hk : interruptToTake s with
  | some k =>
    rw [hk] at h
    cases h
    exact .inl ⟨k, rfl, rfl⟩
  | none =>
    rw [hk] at h
    cases hp : input.fetchPermit with
    | false =>
      simp only [hp, Bool.false_eq_true, if_false] at h
      cases h
      exact .inr (.inl ⟨rfl, rfl, rfl⟩)
    | true =>
      simp only [hp, if_true] at h
      cases hx : exec (fetchInstr s).1 (fetchInstr s).2 with
      | next u =>
        rw [hx] at h
        cases h
        exact .inr (.inr ⟨rfl, rfl, u, rfl, rfl⟩)
      | fault f => rw [hx] at h; cases h
      | refused r => rw [hx] at h; cases h

/-- Inversion of `step`. -/
theorem step_cases {s t : State} (h : step s = .next t) : StepCase s t := by
  unfold step planIteration at h
  cases he : s.exit with
  | some e => rw [he] at h; cases h; exact .notRunning e he rfl
  | none =>
    rw [he] at h
    dsimp only at h
    cases hs : (takeInput s).1.stop with
    | cancellation => rw [hs] at h; cases h; exact .stopped .cancelled he (.inl ⟨hs, rfl⟩) rfl
    | gateTimeout => rw [hs] at h; cases h; exact .stopped .gateTimeout he (.inr ⟨hs, rfl⟩) rfl
    | keepRunning =>
      rw [hs] at h
      rcases planRunning_cases h with ⟨k, hk, ht⟩ | ⟨hk, hp, ht⟩ | ⟨hk, hp, u, hx, ht⟩
      · exact .entered k he (.inl hs) hk ht
      · exact .idle he (.inl hs) hk hp ht
      · exact .executed u he (.inl hs) hk hp hx ht
    | deadline =>
      rw [hs] at h
      rcases planRunning_cases h with ⟨k, hk, ht⟩ | ⟨hk, hp, ht⟩ | ⟨hk, hp, u, hx, ht⟩
      · exact .entered k he (.inr hs) hk ht
      · exact .idle he (.inr hs) hk hp ht
      · exact .executed u he (.inr hs) hk hp hx ht

/-- Everything a step can do to the bus and to the devices: bus accesses. -/
theorem step_reached {s t : State} (h : step s = .next t) : Reached s t := by
  have h0 : Reached s (takeInput s).2 := .engine .refl (takeInput_bus s) (takeInput_traffic s)
  cases step_cases h with
  | notRunning e he ht => exact ht ▸ .refl
  | stopped e he hs ht => subst ht; exact .engine h0 (by simp) (by simp)
  | entered k he hs hk ht => subst ht; exact .engine (h0.interruptEntry k) (endIteration_bus ..) (endIteration_traffic ..)
  | idle he hs hk hp ht => subst ht; exact .engine h0 (endIteration_bus ..) (endIteration_traffic ..)
  | executed u he hs hk hp hx ht =>
    subst ht
    exact .engine (h0.fetchInstr.trans (exec_reached hx)) (endIteration_bus ..) (endIteration_traffic ..)

end Sys2Proof.Machine
end

