-- ==== Sys2Proof/Laws/PerInstr.lean ====
section
/-! SUPPORT. A statement about every instruction as syntax, one lemma per constructor. -/

namespace Sys2Proof.Laws.Length

/-- The bytes of an encoding are as many as its opcode byte alone tells (spec/30_encoding.md R72, R76). -/
def Statement (i : Instr) : Prop := (encode i).length = i.length

theorem ldaIndx (ll : Byte) : Statement (.ldaIndx ll) := rfl
theorem ldaZp (ll : Byte) : Statement (.ldaZp ll) := rfl
theorem ldaImm (v : Byte) : Statement (.ldaImm v) := rfl
theorem ldaAbs (w : Word) : Statement (.ldaAbs w) := rfl
theorem ldaIndy (ll : Byte) : Statement (.ldaIndy ll) := rfl
theorem ldaZpx (ll : Byte) : Statement (.ldaZpx ll) := rfl
theorem ldaAbsy (w : Word) : Statement (.ldaAbsy w) := rfl
theorem ldaAbsx (w : Word) : Statement (.ldaAbsx w) := rfl
theorem ldxImm (v : Byte) : Statement (.ldxImm v) := rfl
theorem ldxZp (ll : Byte) : Statement (.ldxZp ll) := rfl
theorem ldxAbs (w : Word) : Statement (.ldxAbs w) := rfl
theorem ldxZpy (ll : Byte) : Statement (.ldxZpy ll) := rfl
theorem ldxAbsy (w : Word) : Statement (.ldxAbsy w) := rfl
theorem ldyImm (v : Byte) : Statement (.ldyImm v) := rfl
theorem ldyZp (ll : Byte) : Statement (.ldyZp ll) := rfl
theorem ldyAbs (w : Word) : Statement (.ldyAbs w) := rfl
theorem ldyZpx (ll : Byte) : Statement (.ldyZpx ll) := rfl
theorem ldyAbsx (w : Word) : Statement (.ldyAbsx w) := rfl
theorem staIndx (ll : Byte) : Statement (.staIndx ll) := rfl
theorem staZp (ll : Byte) : Statement (.staZp ll) := rfl
theorem staAbs (w : Word) : Statement (.staAbs w) := rfl
theorem staIndy (ll : Byte) : Statement (.staIndy ll) := rfl
theorem staZpx (ll : Byte) : Statement (.staZpx ll) := rfl
theorem staAbsy (w : Word) : Statement (.staAbsy w) := rfl
theorem staAbsx (w : Word) : Statement (.staAbsx w) := rfl
theorem stxZp (ll : Byte) : Statement (.stxZp ll) := rfl
theorem stxAbs (w : Word) : Statement (.stxAbs w) := rfl
theorem stxZpy (ll : Byte) : Statement (.stxZpy ll) := rfl
theorem styZp (ll : Byte) : Statement (.styZp ll) := rfl
theorem styAbs (w : Word) : Statement (.styAbs w) := rfl
theorem styZpx (ll : Byte) : Statement (.styZpx ll) := rfl
theorem tax : Statement .tax := rfl
theorem tay : Statement .tay := rfl
theorem txa : Statement .txa := rfl
theorem tya : Statement .tya := rfl
theorem tsx : Statement .tsx := rfl
theorem txs : Statement .txs := rfl
theorem adcIndx (ll : Byte) : Statement (.adcIndx ll) := rfl
theorem adcZp (ll : Byte) : Statement (.adcZp ll) := rfl
theorem adcImm (v : Byte) : Statement (.adcImm v) := rfl
theorem adcAbs (w : Word) : Statement (.adcAbs w) := rfl
theorem adcIndy (ll : Byte) : Statement (.adcIndy ll) := rfl
theorem adcZpx (ll : Byte) : Statement (.adcZpx ll) := rfl
theorem adcAbsy (w : Word) : Statement (.adcAbsy w) := rfl
theorem adcAbsx (w : Word) : Statement (.adcAbsx w) := rfl
theorem sbcIndx (ll : Byte) : Statement (.sbcIndx ll) := rfl
theorem sbcZp (ll : Byte) : Statement (.sbcZp ll) := rfl
theorem sbcImm (v : Byte) : Statement (.sbcImm v) := rfl
theorem sbcAbs (w : Word) : Statement (.sbcAbs w) := rfl
theorem sbcIndy (ll : Byte) : Statement (.sbcIndy ll) := rfl
theorem sbcZpx (ll : Byte) : Statement (.sbcZpx ll) := rfl
theorem sbcAbsy (w : Word) : Statement (.sbcAbsy w) := rfl
theorem sbcAbsx (w : Word) : Statement (.sbcAbsx w) := rfl
theorem cmpIndx (ll : Byte) : Statement (.cmpIndx ll) := rfl
theorem cmpZp (ll : Byte) : Statement (.cmpZp ll) := rfl
theorem cmpImm (v : Byte) : Statement (.cmpImm v) := rfl
theorem cmpAbs (w : Word) : Statement (.cmpAbs w) := rfl
theorem cmpIndy (ll : Byte) : Statement (.cmpIndy ll) := rfl
theorem cmpZpx (ll : Byte) : Statement (.cmpZpx ll) := rfl
theorem cmpAbsy (w : Word) : Statement (.cmpAbsy w) := rfl
theorem cmpAbsx (w : Word) : Statement (.cmpAbsx w) := rfl
theorem cpxImm (v : Byte) : Statement (.cpxImm v) := rfl
theorem cpxZp (ll : Byte) : Statement (.cpxZp ll) := rfl
theorem cpxAbs (w : Word) : Statement (.cpxAbs w) := rfl
theorem cpyImm (v : Byte) : Statement (.cpyImm v) := rfl
theorem cpyZp (ll : Byte) : Statement (.cpyZp ll) := rfl
theorem cpyAbs (w : Word) : Statement (.cpyAbs w) := rfl
theorem incZp (ll : Byte) : Statement (.incZp ll) := rfl
theorem incAbs (w : Word) : Statement (.incAbs w) := rfl
theorem incZpx (ll : Byte) : Statement (.incZpx ll) := rfl
theorem incAbsx (w : Word) : Statement (.incAbsx w) := rfl
theorem decZp (ll : Byte) : Statement (.decZp ll) := rfl
theorem decAbs (w : Word) : Statement (.decAbs w) := rfl
theorem decZpx (ll : Byte) : Statement (.decZpx ll) := rfl
theorem decAbsx (w : Word) : Statement (.decAbsx w) := rfl
theorem inx : Statement .inx := rfl
theorem iny : Statement .iny := rfl
theorem dex : Statement .dex := rfl
theorem dey : Statement .dey := rfl
theorem andIndx (ll : Byte) : Statement (.andIndx ll) := rfl
theorem andZp (ll : Byte) : Statement (.andZp ll) := rfl
theorem andImm (v : Byte) : Statement (.andImm v) := rfl
theorem andAbs (w : Word) : Statement (.andAbs w) := rfl
theorem andIndy (ll : Byte) : Statement (.andIndy ll) := rfl
theorem andZpx (ll : Byte) : Statement (.andZpx ll) := rfl
theorem andAbsy (w : Word) : Statement (.andAbsy w) := rfl
theorem andAbsx (w : Word) : Statement (.andAbsx w) := rfl
theorem oraIndx (ll : Byte) : Statement (.oraIndx ll) := rfl
theorem oraZp (ll : Byte) : Statement (.oraZp ll) := rfl
theorem oraImm (v : Byte) : Statement (.oraImm v) := rfl
theorem oraAbs (w : Word) : Statement (.oraAbs w) := rfl
theorem oraIndy (ll : Byte) : Statement (.oraIndy ll) := rfl
theorem oraZpx (ll : Byte) : Statement (.oraZpx ll) := rfl
theorem oraAbsy (w : Word) : Statement (.oraAbsy w) := rfl
theorem oraAbsx (w : Word) : Statement (.oraAbsx w) := rfl
theorem eorIndx (ll : Byte) : Statement (.eorIndx ll) := rfl
theorem eorZp (ll : Byte) : Statement (.eorZp ll) := rfl
theorem eorImm (v : Byte) : Statement (.eorImm v) := rfl
theorem eorAbs (w : Word) : Statement (.eorAbs w) := rfl
theorem eorIndy (ll : Byte) : Statement (.eorIndy ll) := rfl
theorem eorZpx (ll : Byte) : Statement (.eorZpx ll) := rfl
theorem eorAbsy (w : Word) : Statement (.eorAbsy w) := rfl
theorem eorAbsx (w : Word) : Statement (.eorAbsx w) := rfl
theorem bitZp (ll : Byte) : Statement (.bitZp ll) := rfl
theorem bitAbs (w : Word) : Statement (.bitAbs w) := rfl
theorem aslZp (ll : Byte) : Statement (.aslZp ll) := rfl
theorem aslAcc : Statement .aslAcc := rfl
theorem aslAbs (w : Word) : Statement (.aslAbs w) := rfl
theorem aslZpx (ll : Byte) : Statement (.aslZpx ll) := rfl
theorem aslAbsx (w : Word) : Statement (.aslAbsx w) := rfl
theorem lsrZp (ll : Byte) : Statement (.lsrZp ll) := rfl
theorem lsrAcc : Statement .lsrAcc := rfl
theorem lsrAbs (w : Word) : Statement (.lsrAbs w) := rfl
theorem lsrZpx (ll : Byte) : Statement (.lsrZpx ll) := rfl
theorem lsrAbsx (w : Word) : Statement (.lsrAbsx w) := rfl
theorem rolZp (ll : Byte) : Statement (.rolZp ll) := rfl
theorem rolAcc : Statement .rolAcc := rfl
theorem rolAbs (w : Word) : Statement (.rolAbs w) := rfl
theorem rolZpx (ll : Byte) : Statement (.rolZpx ll) := rfl
theorem rolAbsx (w : Word) : Statement (.rolAbsx w) := rfl
theorem rorZp (ll : Byte) : Statement (.rorZp ll) := rfl
theorem rorAcc : Statement .rorAcc := rfl
theorem rorAbs (w : Word) : Statement (.rorAbs w) := rfl
theorem rorZpx (ll : Byte) : Statement (.rorZpx ll) := rfl
theorem rorAbsx (w : Word) : Statement (.rorAbsx w) := rfl
theorem pha : Statement .pha := rfl
theorem pla : Statement .pla := rfl
theorem php : Statement .php := rfl
theorem plp : Statement .plp := rfl
theorem bpl (off : Int) : Statement (.bpl off) := rfl
theorem bmi (off : Int) : Statement (.bmi off) := rfl
theorem bvc (off : Int) : Statement (.bvc off) := rfl
theorem bvs (off : Int) : Statement (.bvs off) := rfl
theorem bcc (off : Int) : Statement (.bcc off) := rfl
theorem bcs (off : Int) : Statement (.bcs off) := rfl
theorem bne (off : Int) : Statement (.bne off) := rfl
theorem beq (off : Int) : Statement (.beq off) := rfl
theorem jmpAbs (w : Word) : Statement (.jmpAbs w) := rfl
theorem jmpInd (w : Word) : Statement (.jmpInd w) := rfl
theorem jsr (w : Word) : Statement (.jsr w) := rfl
theorem rts : Statement .rts := rfl
theorem clc : Statement .clc := rfl
theorem sec : Statement .sec := rfl
theorem cli : Statement .cli := rfl
theorem sei : Statement .sei := rfl
theorem cld : Statement .cld := rfl
theorem sed : Statement .sed := rfl
theorem clv : Statement .clv := rfl
theorem nop : Statement .nop := rfl
theorem brk : Statement .brk := rfl
theorem rti : Statement .rti := rfl
theorem unmapped02 : Statement .unmapped02 := rfl
theorem unmapped03 : Statement .unmapped03 := rfl
theorem unmapped04 : Statement .unmapped04 := rfl
theorem unmapped07 : Statement .unmapped07 := rfl
theorem unmapped0B : Statement .unmapped0B := rfl
theorem unmapped0C : Statement .unmapped0C := rfl
theorem unmapped0F : Statement .unmapped0F := rfl
theorem unmapped12 : Statement .unmapped12 := rfl
theorem unmapped13 : Statement .unmapped13 := rfl
theorem unmapped14 : Statement .unmapped14 := rfl
theorem unmapped17 : Statement .unmapped17 := rfl
theorem unmapped1A : Statement .unmapped1A := rfl
theorem unmapped1B : Statement .unmapped1B := rfl
theorem unmapped1C : Statement .unmapped1C := rfl
theorem unmapped1F : Statement .unmapped1F := rfl
theorem unmapped22 : Statement .unmapped22 := rfl
theorem unmapped23 : Statement .unmapped23 := rfl
theorem unmapped27 : Statement .unmapped27 := rfl
theorem unmapped2B : Statement .unmapped2B := rfl
theorem unmapped2F : Statement .unmapped2F := rfl
theorem unmapped32 : Statement .unmapped32 := rfl
theorem unmapped33 : Statement .unmapped33 := rfl
theorem unmapped34 : Statement .unmapped34 := rfl
theorem unmapped37 : Statement .unmapped37 := rfl
theorem unmapped3A : Statement .unmapped3A := rfl
theorem unmapped3B : Statement .unmapped3B := rfl
theorem unmapped3C : Statement .unmapped3C := rfl
theorem unmapped3F : Statement .unmapped3F := rfl
theorem unmapped42 : Statement .unmapped42 := rfl
theorem unmapped43 : Statement .unmapped43 := rfl
theorem unmapped44 : Statement .unmapped44 := rfl
theorem unmapped47 : Statement .unmapped47 := rfl
theorem unmapped4B : Statement .unmapped4B := rfl
theorem unmapped4F : Statement .unmapped4F := rfl
theorem unmapped52 : Statement .unmapped52 := rfl
theorem unmapped53 : Statement .unmapped53 := rfl
theorem unmapped54 : Statement .unmapped54 := rfl
theorem unmapped57 : Statement .unmapped57 := rfl
theorem unmapped5A : Statement .unmapped5A := rfl
theorem unmapped5B : Statement .unmapped5B := rfl
theorem unmapped5C : Statement .unmapped5C := rfl
theorem unmapped5F : Statement .unmapped5F := rfl
theorem unmapped62 : Statement .unmapped62 := rfl
theorem unmapped63 : Statement .unmapped63 := rfl
theorem unmapped64 : Statement .unmapped64 := rfl
theorem unmapped67 : Statement .unmapped67 := rfl
theorem unmapped6B : Statement .unmapped6B := rfl
theorem unmapped6F : Statement .unmapped6F := rfl
theorem unmapped72 : Statement .unmapped72 := rfl
theorem unmapped73 : Statement .unmapped73 := rfl
theorem unmapped74 : Statement .unmapped74 := rfl
theorem unmapped77 : Statement .unmapped77 := rfl
theorem unmapped7A : Statement .unmapped7A := rfl
theorem unmapped7B : Statement .unmapped7B := rfl
theorem unmapped7C : Statement .unmapped7C := rfl
theorem unmapped7F : Statement .unmapped7F := rfl
theorem unmapped80 : Statement .unmapped80 := rfl
theorem unmapped82 : Statement .unmapped82 := rfl
theorem unmapped83 : Statement .unmapped83 := rfl
theorem unmapped87 : Statement .unmapped87 := rfl
theorem unmapped89 : Statement .unmapped89 := rfl
theorem unmapped8B : Statement .unmapped8B := rfl
theorem unmapped8F : Statement .unmapped8F := rfl
theorem unmapped92 : Statement .unmapped92 := rfl
theorem unmapped93 : Statement .unmapped93 := rfl
theorem unmapped97 : Statement .unmapped97 := rfl
theorem unmapped9B : Statement .unmapped9B := rfl
theorem unmapped9C : Statement .unmapped9C := rfl
theorem unmapped9E : Statement .unmapped9E := rfl
theorem unmapped9F : Statement .unmapped9F := rfl
theorem unmappedA3 : Statement .unmappedA3 := rfl
theorem unmappedA7 : Statement .unmappedA7 := rfl
theorem unmappedAB : Statement .unmappedAB := rfl
theorem unmappedAF : Statement .unmappedAF := rfl
theorem unmappedB2 : Statement .unmappedB2 := rfl
theorem unmappedB3 : Statement .unmappedB3 := rfl
theorem unmappedB7 : Statement .unmappedB7 := rfl
theorem unmappedBB : Statement .unmappedBB := rfl
theorem unmappedBF : Statement .unmappedBF := rfl
theorem unmappedC2 : Statement .unmappedC2 := rfl
theorem unmappedC3 : Statement .unmappedC3 := rfl
theorem unmappedC7 : Statement .unmappedC7 := rfl
theorem unmappedCB : Statement .unmappedCB := rfl
theorem unmappedCF : Statement .unmappedCF := rfl
theorem unmappedD2 : Statement .unmappedD2 := rfl
theorem unmappedD3 : Statement .unmappedD3 := rfl
theorem unmappedD4 : Statement .unmappedD4 := rfl
theorem unmappedD7 : Statement .unmappedD7 := rfl
theorem unmappedDA : Statement .unmappedDA := rfl
theorem unmappedDB : Statement .unmappedDB := rfl
theorem unmappedDC : Statement .unmappedDC := rfl
theorem unmappedDF : Statement .unmappedDF := rfl
theorem unmappedE2 : Statement .unmappedE2 := rfl
theorem unmappedE3 : Statement .unmappedE3 := rfl
theorem unmappedE7 : Statement .unmappedE7 := rfl
theorem unmappedEB : Statement .unmappedEB := rfl
theorem unmappedEF : Statement .unmappedEF := rfl
theorem unmappedF2 : Statement .unmappedF2 := rfl
theorem unmappedF3 : Statement .unmappedF3 := rfl
theorem unmappedF4 : Statement .unmappedF4 := rfl
theorem unmappedF7 : Statement .unmappedF7 := rfl
theorem unmappedFA : Statement .unmappedFA := rfl
theorem unmappedFB : Statement .unmappedFB := rfl
theorem unmappedFC : Statement .unmappedFC := rfl
theorem unmappedFF : Statement .unmappedFF := rfl

end Sys2Proof.Laws.Length
end

