-- ==== Sys2Proof/Tests/Slice0.lean ====
section
/-! SUPPORT. Tests of the model: the well-formedness checks, decoding, single steps with the results of
spec/95_test_vectors.md, and a witness for every statement that has hypotheses. -/

open Sys2Proof Sys2Proof.Machine Sys2Proof.Safety Sys2Proof.Claims

namespace Sys2Proof.Tests

set_option Elab.async false

/-! ### Well-formed and ill-formed terms (R73, R123) -/

/-- One ill-formed term for each check: a displacement past either end of the operand byte. -/
theorem test_wellFormed_refuses :
    ¬(Instr.bpl 128).WellFormed ∧ ¬(Instr.bpl (-129)).WellFormed ∧
    ¬(Instr.bmi 128).WellFormed ∧ ¬(Instr.bmi (-129)).WellFormed ∧
    ¬(Instr.bvc 128).WellFormed ∧ ¬(Instr.bvc (-129)).WellFormed ∧
    ¬(Instr.bvs 128).WellFormed ∧ ¬(Instr.bvs (-129)).WellFormed ∧
    ¬(Instr.bcc 128).WellFormed ∧ ¬(Instr.bcc (-129)).WellFormed ∧
    ¬(Instr.bcs 128).WellFormed ∧ ¬(Instr.bcs (-129)).WellFormed ∧
    ¬(Instr.bne 128).WellFormed ∧ ¬(Instr.bne (-129)).WellFormed ∧
    ¬(Instr.beq 128).WellFormed ∧ ¬(Instr.beq (-129)).WellFormed := by decide

theorem test_wellFormed_accepts :
    (Instr.bpl 127).WellFormed ∧ (Instr.bpl (-128)).WellFormed ∧
    (Instr.bmi 127).WellFormed ∧ (Instr.bmi (-128)).WellFormed ∧
    (Instr.bvc 127).WellFormed ∧ (Instr.bvc (-128)).WellFormed ∧
    (Instr.bvs 127).WellFormed ∧ (Instr.bvs (-128)).WellFormed ∧
    (Instr.bcc 127).WellFormed ∧ (Instr.bcc (-128)).WellFormed ∧
    (Instr.bcs 127).WellFormed ∧ (Instr.bcs (-128)).WellFormed ∧
    (Instr.bne 127).WellFormed ∧ (Instr.bne (-128)).WellFormed ∧
    (Instr.beq 127).WellFormed ∧ (Instr.beq (-128)).WellFormed := by decide

/-! ### Decoding: one row of the opcode matrix each, the bytes written out from spec/opcode_table.json (R74, R75);
operand byte 34, or 34 12 for a word, or FE (-2) for a branch -/

theorem test_decode_row0 :
    decode [0x00#8] = .ok (.brk, []) ∧
    decode [0x01#8, 0x34#8] = .ok (.oraIndx 0x34#8, []) ∧
    decode [0x02#8] = .ok (.unmapped02, []) ∧
    decode [0x03#8] = .ok (.unmapped03, []) ∧
    decode [0x04#8] = .ok (.unmapped04, []) ∧
    decode [0x05#8, 0x34#8] = .ok (.oraZp 0x34#8, []) ∧
    decode [0x06#8, 0x34#8] = .ok (.aslZp 0x34#8, []) ∧
    decode [0x07#8] = .ok (.unmapped07, []) ∧
    decode [0x08#8] = .ok (.php, []) ∧
    decode [0x09#8, 0x34#8] = .ok (.oraImm 0x34#8, []) ∧
    decode [0x0A#8] = .ok (.aslAcc, []) ∧
    decode [0x0B#8] = .ok (.unmapped0B, []) ∧
    decode [0x0C#8] = .ok (.unmapped0C, []) ∧
    decode [0x0D#8, 0x34#8, 0x12#8] = .ok (.oraAbs 0x1234#16, []) ∧
    decode [0x0E#8, 0x34#8, 0x12#8] = .ok (.aslAbs 0x1234#16, []) ∧
    decode [0x0F#8] = .ok (.unmapped0F, []) :=
  ⟨rfl, rfl, rfl, rfl, rfl, rfl, rfl, rfl, rfl, rfl, rfl, rfl, rfl, rfl, rfl, rfl⟩

theorem test_decode_row1 :
    decode [0x10#8, 0xFE#8] = .ok (.bpl (-2), []) ∧
    decode [0x11#8, 0x34#8] = .ok (.oraIndy 0x34#8, []) ∧
    decode [0x12#8] = .ok (.unmapped12, []) ∧
    decode [0x13#8] = .ok (.unmapped13, []) ∧
    decode [0x14#8] = .ok (.unmapped14, []) ∧
    decode [0x15#8, 0x34#8] = .ok (.oraZpx 0x34#8, []) ∧
    decode [0x16#8, 0x34#8] = .ok (.aslZpx 0x34#8, []) ∧
    decode [0x17#8] = .ok (.unmapped17, []) ∧
    decode [0x18#8] = .ok (.clc, []) ∧
    decode [0x19#8, 0x34#8, 0x12#8] = .ok (.oraAbsy 0x1234#16, []) ∧
    decode [0x1A#8] = .ok (.unmapped1A, []) ∧
    decode [0x1B#8] = .ok (.unmapped1B, []) ∧
    decode [0x1C#8] = .ok (.unmapped1C, []) ∧
    decode [0x1D#8, 0x34#8, 0x12#8] = .ok (.oraAbsx 0x1234#16, []) ∧
    decode [0x1E#8, 0x34#8, 0x12#8] = .ok (.aslAbsx 0x1234#16, []) ∧
    decode [0x1F#8] = .ok (.unmapped1F, []) :=
  ⟨rfl, rfl, rfl, rfl, rfl, rfl, rfl, rfl, rfl, rfl, rfl, rfl, rfl, rfl, rfl, rfl⟩

theorem test_decode_row2 :
    decode [0x20#8, 0x34#8, 0x12#8] = .ok (.jsr 0x1234#16, []) ∧
    decode [0x21#8, 0x34#8] = .ok (.andIndx 0x34#8, []) ∧
    decode [0x22#8] = .ok (.unmapped22, []) ∧
    decode [0x23#8] = .ok (.unmapped23, []) ∧
    decode [0x24#8, 0x34#8] = .ok (.bitZp 0x34#8, []) ∧
    decode [0x25#8, 0x34#8] = .ok (.andZp 0x34#8, []) ∧
    decode [0x26#8, 0x34#8] = .ok (.rolZp 0x34#8, []) ∧
    decode [0x27#8] = .ok (.unmapped27, []) ∧
    decode [0x28#8] = .ok (.plp, []) ∧
    decode [0x29#8, 0x34#8] = .ok (.andImm 0x34#8, []) ∧
    decode [0x2A#8] = .ok (.rolAcc, []) ∧
    decode [0x2B#8] = .ok (.unmapped2B, []) ∧
    decode [0x2C#8, 0x34#8, 0x12#8] = .ok (.bitAbs 0x1234#16, []) ∧
    decode [0x2D#8, 0x34#8, 0x12#8] = .ok (.andAbs 0x1234#16, []) ∧
    decode [0x2E#8, 0x34#8, 0x12#8] = .ok (.rolAbs 0x1234#16, []) ∧
    decode [0x2F#8] = .ok (.unmapped2F, []) :=
  ⟨rfl, rfl, rfl, rfl, rfl, rfl, rfl, rfl, rfl, rfl, rfl, rfl, rfl, rfl, rfl, rfl⟩

theorem test_decode_row3 :
    decode [0x30#8, 0xFE#8] = .ok (.bmi (-2), []) ∧
    decode [0x31#8, 0x34#8] = .ok (.andIndy 0x34#8, []) ∧
    decode [0x32#8] = .ok (.unmapped32, []) ∧
    decode [0x33#8] = .ok (.unmapped33, []) ∧
    decode [0x34#8] = .ok (.unmapped34, []) ∧
    decode [0x35#8, 0x34#8] = .ok (.andZpx 0x34#8, []) ∧
    decode [0x36#8, 0x34#8] = .ok (.rolZpx 0x34#8, []) ∧
    decode [0x37#8] = .ok (.unmapped37, []) ∧
    decode [0x38#8] = .ok (.sec, []) ∧
    decode [0x39#8, 0x34#8, 0x12#8] = .ok (.andAbsy 0x1234#16, []) ∧
    decode [0x3A#8] = .ok (.unmapped3A, []) ∧
    decode [0x3B#8] = .ok (.unmapped3B, []) ∧
    decode [0x3C#8] = .ok (.unmapped3C, []) ∧
    decode [0x3D#8, 0x34#8, 0x12#8] = .ok (.andAbsx 0x1234#16, []) ∧
    decode [0x3E#8, 0x34#8, 0x12#8] = .ok (.rolAbsx 0x1234#16, []) ∧
    decode [0x3F#8] = .ok (.unmapped3F, []) :=
  ⟨rfl, rfl, rfl, rfl, rfl, rfl, rfl, rfl, rfl, rfl, rfl, rfl, rfl, rfl, rfl, rfl⟩

theorem test_decode_row4 :
    decode [0x40#8] = .ok (.rti, []) ∧
    decode [0x41#8, 0x34#8] = .ok (.eorIndx 0x34#8, []) ∧
    decode [0x42#8] = .ok (.unmapped42, []) ∧
    decode [0x43#8] = .ok (.unmapped43, []) ∧
    decode [0x44#8] = .ok (.unmapped44, []) ∧
    decode [0x45#8, 0x34#8] = .ok (.eorZp 0x34#8, []) ∧
    decode [0x46#8, 0x34#8] = .ok (.lsrZp 0x34#8, []) ∧
    decode [0x47#8] = .ok (.unmapped47, []) ∧
    decode [0x48#8] = .ok (.pha, []) ∧
    decode [0x49#8, 0x34#8] = .ok (.eorImm 0x34#8, []) ∧
    decode [0x4A#8] = .ok (.lsrAcc, []) ∧
    decode [0x4B#8] = .ok (.unmapped4B, []) ∧
    decode [0x4C#8, 0x34#8, 0x12#8] = .ok (.jmpAbs 0x1234#16, []) ∧
    decode [0x4D#8, 0x34#8, 0x12#8] = .ok (.eorAbs 0x1234#16, []) ∧
    decode [0x4E#8, 0x34#8, 0x12#8] = .ok (.lsrAbs 0x1234#16, []) ∧
    decode [0x4F#8] = .ok (.unmapped4F, []) :=
  ⟨rfl, rfl, rfl, rfl, rfl, rfl, rfl, rfl, rfl, rfl, rfl, rfl, rfl, rfl, rfl, rfl⟩

theorem test_decode_row5 :
    decode [0x50#8, 0xFE#8] = .ok (.bvc (-2), []) ∧
    decode [0x51#8, 0x34#8] = .ok (.eorIndy 0x34#8, []) ∧
    decode [0x52#8] = .ok (.unmapped52, []) ∧
    decode [0x53#8] = .ok (.unmapped53, []) ∧
    decode [0x54#8] = .ok (.unmapped54, []) ∧
    decode [0x55#8, 0x34#8] = .ok (.eorZpx 0x34#8, []) ∧
    decode [0x56#8, 0x34#8] = .ok (.lsrZpx 0x34#8, []) ∧
    decode [0x57#8] = .ok (.unmapped57, []) ∧
    decode [0x58#8] = .ok (.cli, []) ∧
    decode [0x59#8, 0x34#8, 0x12#8] = .ok (.eorAbsy 0x1234#16, []) ∧
    decode [0x5A#8] = .ok (.unmapped5A, []) ∧
    decode [0x5B#8] = .ok (.unmapped5B, []) ∧
    decode [0x5C#8] = .ok (.unmapped5C, []) ∧
    decode [0x5D#8, 0x34#8, 0x12#8] = .ok (.eorAbsx 0x1234#16, []) ∧
    decode [0x5E#8, 0x34#8, 0x12#8] = .ok (.lsrAbsx 0x1234#16, []) ∧
    decode [0x5F#8] = .ok (.unmapped5F, []) :=
  ⟨rfl, rfl, rfl, rfl, rfl, rfl, rfl, rfl, rfl, rfl, rfl, rfl, rfl, rfl, rfl, rfl⟩

theorem test_decode_row6 :
    decode [0x60#8] = .ok (.rts, []) ∧
    decode [0x61#8, 0x34#8] = .ok (.adcIndx 0x34#8, []) ∧
    decode [0x62#8] = .ok (.unmapped62, []) ∧
    decode [0x63#8] = .ok (.unmapped63, []) ∧
    decode [0x64#8] = .ok (.unmapped64, []) ∧
    decode [0x65#8, 0x34#8] = .ok (.adcZp 0x34#8, []) ∧
    decode [0x66#8, 0x34#8] = .ok (.rorZp 0x34#8, []) ∧
    decode [0x67#8] = .ok (.unmapped67, []) ∧
    decode [0x68#8] = .ok (.pla, []) ∧
    decode [0x69#8, 0x34#8] = .ok (.adcImm 0x34#8, []) ∧
    decode [0x6A#8] = .ok (.rorAcc, []) ∧
    decode [0x6B#8] = .ok (.unmapped6B, []) ∧
    decode [0x6C#8, 0x34#8, 0x12#8] = .ok (.jmpInd 0x1234#16, []) ∧
    decode [0x6D#8, 0x34#8, 0x12#8] = .ok (.adcAbs 0x1234#16, []) ∧
    decode [0x6E#8, 0x34#8, 0x12#8] = .ok (.rorAbs 0x1234#16, []) ∧
    decode [0x6F#8] = .ok (.unmapped6F, []) :=
  ⟨rfl, rfl, rfl, rfl, rfl, rfl, rfl, rfl, rfl, rfl, rfl, rfl, rfl, rfl, rfl, rfl⟩

theorem test_decode_row7 :
    decode [0x70#8, 0xFE#8] = .ok (.bvs (-2), []) ∧
    decode [0x71#8, 0x34#8] = .ok (.adcIndy 0x34#8, []) ∧
    decode [0x72#8] = .ok (.unmapped72, []) ∧
    decode [0x73#8] = .ok (.unmapped73, []) ∧
    decode [0x74#8] = .ok (.unmapped74, []) ∧
    decode [0x75#8, 0x34#8] = .ok (.adcZpx 0x34#8, []) ∧
    decode [0x76#8, 0x34#8] = .ok (.rorZpx 0x34#8, []) ∧
    decode [0x77#8] = .ok (.unmapped77, []) ∧
    decode [0x78#8] = .ok (.sei, []) ∧
    decode [0x79#8, 0x34#8, 0x12#8] = .ok (.adcAbsy 0x1234#16, []) ∧
    decode [0x7A#8] = .ok (.unmapped7A, []) ∧
    decode [0x7B#8] = .ok (.unmapped7B, []) ∧
    decode [0x7C#8] = .ok (.unmapped7C, []) ∧
    decode [0x7D#8, 0x34#8, 0x12#8] = .ok (.adcAbsx 0x1234#16, []) ∧
    decode [0x7E#8, 0x34#8, 0x12#8] = .ok (.rorAbsx 0x1234#16, []) ∧
    decode [0x7F#8] = .ok (.unmapped7F, []) :=
  ⟨rfl, rfl, rfl, rfl, rfl, rfl, rfl, rfl, rfl, rfl, rfl, rfl, rfl, rfl, rfl, rfl⟩

theorem test_decode_row8 :
    decode [0x80#8] = .ok (.unmapped80, []) ∧
    decode [0x81#8, 0x34#8] = .ok (.staIndx 0x34#8, []) ∧
    decode [0x82#8] = .ok (.unmapped82, []) ∧
    decode [0x83#8] = .ok (.unmapped83, []) ∧
    decode [0x84#8, 0x34#8] = .ok (.styZp 0x34#8, []) ∧
    decode [0x85#8, 0x34#8] = .ok (.staZp 0x34#8, []) ∧
    decode [0x86#8, 0x34#8] = .ok (.stxZp 0x34#8, []) ∧
    decode [0x87#8] = .ok (.unmapped87, []) ∧
    decode [0x88#8] = .ok (.dey, []) ∧
    decode [0x89#8] = .ok (.unmapped89, []) ∧
    decode [0x8A#8] = .ok (.txa, []) ∧
    decode [0x8B#8] = .ok (.unmapped8B, []) ∧
    decode [0x8C#8, 0x34#8, 0x12#8] = .ok (.styAbs 0x1234#16, []) ∧
    decode [0x8D#8, 0x34#8, 0x12#8] = .ok (.staAbs 0x1234#16, []) ∧
    decode [0x8E#8, 0x34#8, 0x12#8] = .ok (.stxAbs 0x1234#16, []) ∧
    decode [0x8F#8] = .ok (.unmapped8F, []) :=
  ⟨rfl, rfl, rfl, rfl, rfl, rfl, rfl, rfl, rfl, rfl, rfl, rfl, rfl, rfl, rfl, rfl⟩

theorem test_decode_row9 :
    decode [0x90#8, 0xFE#8] = .ok (.bcc (-2), []) ∧
    decode [0x91#8, 0x34#8] = .ok (.staIndy 0x34#8, []) ∧
    decode [0x92#8] = .ok (.unmapped92, []) ∧
    decode [0x93#8] = .ok (.unmapped93, []) ∧
    decode [0x94#8, 0x34#8] = .ok (.styZpx 0x34#8, []) ∧
    decode [0x95#8, 0x34#8] = .ok (.staZpx 0x34#8, []) ∧
    decode [0x96#8, 0x34#8] = .ok (.stxZpy 0x34#8, []) ∧
    decode [0x97#8] = .ok (.unmapped97, []) ∧
    decode [0x98#8] = .ok (.tya, []) ∧
    decode [0x99#8, 0x34#8, 0x12#8] = .ok (.staAbsy 0x1234#16, []) ∧
    decode [0x9A#8] = .ok (.txs, []) ∧
    decode [0x9B#8] = .ok (.unmapped9B, []) ∧
    decode [0x9C#8] = .ok (.unmapped9C, []) ∧
    decode [0x9D#8, 0x34#8, 0x12#8] = .ok (.staAbsx 0x1234#16, []) ∧
    decode [0x9E#8] = .ok (.unmapped9E, []) ∧
    decode [0x9F#8] = .ok (.unmapped9F, []) :=
  ⟨rfl, rfl, rfl, rfl, rfl, rfl, rfl, rfl, rfl, rfl, rfl, rfl, rfl, rfl, rfl, rfl⟩

theorem test_decode_rowA :
    decode [0xA0#8, 0x34#8] = .ok (.ldyImm 0x34#8, []) ∧
    decode [0xA1#8, 0x34#8] = .ok (.ldaIndx 0x34#8, []) ∧
    decode [0xA2#8, 0x34#8] = .ok (.ldxImm 0x34#8, []) ∧
    decode [0xA3#8] = .ok (.unmappedA3, []) ∧
    decode [0xA4#8, 0x34#8] = .ok (.ldyZp 0x34#8, []) ∧
    decode [0xA5#8, 0x34#8] = .ok (.ldaZp 0x34#8, []) ∧
    decode [0xA6#8, 0x34#8] = .ok (.ldxZp 0x34#8, []) ∧
    decode [0xA7#8] = .ok (.unmappedA7, []) ∧
    decode [0xA8#8] = .ok (.tay, []) ∧
    decode [0xA9#8, 0x34#8] = .ok (.ldaImm 0x34#8, []) ∧
    decode [0xAA#8] = .ok (.tax, []) ∧
    decode [0xAB#8] = .ok (.unmappedAB, []) ∧
    decode [0xAC#8, 0x34#8, 0x12#8] = .ok (.ldyAbs 0x1234#16, []) ∧
    decode [0xAD#8, 0x34#8, 0x12#8] = .ok (.ldaAbs 0x1234#16, []) ∧
    decode [0xAE#8, 0x34#8, 0x12#8] = .ok (.ldxAbs 0x1234#16, []) ∧
    decode [0xAF#8] = .ok (.unmappedAF, []) :=
  ⟨rfl, rfl, rfl, rfl, rfl, rfl, rfl, rfl, rfl, rfl, rfl, rfl, rfl, rfl, rfl, rfl⟩

theorem test_decode_rowB :
    decode [0xB0#8, 0xFE#8] = .ok (.bcs (-2), []) ∧
    decode [0xB1#8, 0x34#8] = .ok (.ldaIndy 0x34#8, []) ∧
    decode [0xB2#8] = .ok (.unmappedB2, []) ∧
    decode [0xB3#8] = .ok (.unmappedB3, []) ∧
    decode [0xB4#8, 0x34#8] = .ok (.ldyZpx 0x34#8, []) ∧
    decode [0xB5#8, 0x34#8] = .ok (.ldaZpx 0x34#8, []) ∧
    decode [0xB6#8, 0x34#8] = .ok (.ldxZpy 0x34#8, []) ∧
    decode [0xB7#8] = .ok (.unmappedB7, []) ∧
    decode [0xB8#8] = .ok (.clv, []) ∧
    decode [0xB9#8, 0x34#8, 0x12#8] = .ok (.ldaAbsy 0x1234#16, []) ∧
    decode [0xBA#8] = .ok (.tsx, []) ∧
    decode [0xBB#8] = .ok (.unmappedBB, []) ∧
    decode [0xBC#8, 0x34#8, 0x12#8] = .ok (.ldyAbsx 0x1234#16, []) ∧
    decode [0xBD#8, 0x34#8, 0x12#8] = .ok (.ldaAbsx 0x1234#16, []) ∧
    decode [0xBE#8, 0x34#8, 0x12#8] = .ok (.ldxAbsy 0x1234#16, []) ∧
    decode [0xBF#8] = .ok (.unmappedBF, []) :=
  ⟨rfl, rfl, rfl, rfl, rfl, rfl, rfl, rfl, rfl, rfl, rfl, rfl, rfl, rfl, rfl, rfl⟩

theorem test_decode_rowC :
    decode [0xC0#8, 0x34#8] = .ok (.cpyImm 0x34#8, []) ∧
    decode [0xC1#8, 0x34#8] = .ok (.cmpIndx 0x34#8, []) ∧
    decode [0xC2#8] = .ok (.unmappedC2, []) ∧
    decode [0xC3#8] = .ok (.unmappedC3, []) ∧
    decode [0xC4#8, 0x34#8] = .ok (.cpyZp 0x34#8, []) ∧
    decode [0xC5#8, 0x34#8] = .ok (.cmpZp 0x34#8, []) ∧
    decode [0xC6#8, 0x34#8] = .ok (.decZp 0x34#8, []) ∧
    decode [0xC7#8] = .ok (.unmappedC7, []) ∧
    decode [0xC8#8] = .ok (.iny, []) ∧
    decode [0xC9#8, 0x34#8] = .ok (.cmpImm 0x34#8, []) ∧
    decode [0xCA#8] = .ok (.dex, []) ∧
    decode [0xCB#8] = .ok (.unmappedCB, []) ∧
    decode [0xCC#8, 0x34#8, 0x12#8] = .ok (.cpyAbs 0x1234#16, []) ∧
    decode [0xCD#8, 0x34#8, 0x12#8] = .ok (.cmpAbs 0x1234#16, []) ∧
    decode [0xCE#8, 0x34#8, 0x12#8] = .ok (.decAbs 0x1234#16, []) ∧
    decode [0xCF#8] = .ok (.unmappedCF, []) :=
  ⟨rfl, rfl, rfl, rfl, rfl, rfl, rfl, rfl, rfl, rfl, rfl, rfl, rfl, rfl, rfl, rfl⟩

theorem test_decode_rowD :
    decode [0xD0#8, 0xFE#8] = .ok (.bne (-2), []) ∧
    decode [0xD1#8, 0x34#8] = .ok (.cmpIndy 0x34#8, []) ∧
    decode [0xD2#8] = .ok (.unmappedD2, []) ∧
    decode [0xD3#8] = .ok (.unmappedD3, []) ∧
    decode [0xD4#8] = .ok (.unmappedD4, []) ∧
    decode [0xD5#8, 0x34#8] = .ok (.cmpZpx 0x34#8, []) ∧
    decode [0xD6#8, 0x34#8] = .ok (.decZpx 0x34#8, []) ∧
    decode [0xD7#8] = .ok (.unmappedD7, []) ∧
    decode [0xD8#8] = .ok (.cld, []) ∧
    decode [0xD9#8, 0x34#8, 0x12#8] = .ok (.cmpAbsy 0x1234#16, []) ∧
    decode [0xDA#8] = .ok (.unmappedDA, []) ∧
    decode [0xDB#8] = .ok (.unmappedDB, []) ∧
    decode [0xDC#8] = .ok (.unmappedDC, []) ∧
    decode [0xDD#8, 0x34#8, 0x12#8] = .ok (.cmpAbsx 0x1234#16, []) ∧
    decode [0xDE#8, 0x34#8, 0x12#8] = .ok (.decAbsx 0x1234#16, []) ∧
    decode [0xDF#8] = .ok (.unmappedDF, []) :=
  ⟨rfl, rfl, rfl, rfl, rfl, rfl, rfl, rfl, rfl, rfl, rfl, rfl, rfl, rfl, rfl, rfl⟩

theorem test_decode_rowE :
    decode [0xE0#8, 0x34#8] = .ok (.cpxImm 0x34#8, []) ∧
    decode [0xE1#8, 0x34#8] = .ok (.sbcIndx 0x34#8, []) ∧
    decode [0xE2#8] = .ok (.unmappedE2, []) ∧
    decode [0xE3#8] = .ok (.unmappedE3, []) ∧
    decode [0xE4#8, 0x34#8] = .ok (.cpxZp 0x34#8, []) ∧
    decode [0xE5#8, 0x34#8] = .ok (.sbcZp 0x34#8, []) ∧
    decode [0xE6#8, 0x34#8] = .ok (.incZp 0x34#8, []) ∧
    decode [0xE7#8] = .ok (.unmappedE7, []) ∧
    decode [0xE8#8] = .ok (.inx, []) ∧
    decode [0xE9#8, 0x34#8] = .ok (.sbcImm 0x34#8, []) ∧
    decode [0xEA#8] = .ok (.nop, []) ∧
    decode [0xEB#8] = .ok (.unmappedEB, []) ∧
    decode [0xEC#8, 0x34#8, 0x12#8] = .ok (.cpxAbs 0x1234#16, []) ∧
    decode [0xED#8, 0x34#8, 0x12#8] = .ok (.sbcAbs 0x1234#16, []) ∧
    decode [0xEE#8, 0x34#8, 0x12#8] = .ok (.incAbs 0x1234#16, []) ∧
    decode [0xEF#8] = .ok (.unmappedEF, []) :=
  ⟨rfl, rfl, rfl, rfl, rfl, rfl, rfl, rfl, rfl, rfl, rfl, rfl, rfl, rfl, rfl, rfl⟩

theorem test_decode_rowF :
    decode [0xF0#8, 0xFE#8] = .ok (.beq (-2), []) ∧
    decode [0xF1#8, 0x34#8] = .ok (.sbcIndy 0x34#8, []) ∧
    decode [0xF2#8] = .ok (.unmappedF2, []) ∧
    decode [0xF3#8] = .ok (.unmappedF3, []) ∧
    decode [0xF4#8] = .ok (.unmappedF4, []) ∧
    decode [0xF5#8, 0x34#8] = .ok (.sbcZpx 0x34#8, []) ∧
    decode [0xF6#8, 0x34#8] = .ok (.incZpx 0x34#8, []) ∧
    decode [0xF7#8] = .ok (.unmappedF7, []) ∧
    decode [0xF8#8] = .ok (.sed, []) ∧
    decode [0xF9#8, 0x34#8, 0x12#8] = .ok (.sbcAbsy 0x1234#16, []) ∧
    decode [0xFA#8] = .ok (.unmappedFA, []) ∧
    decode [0xFB#8] = .ok (.unmappedFB, []) ∧
    decode [0xFC#8] = .ok (.unmappedFC, []) ∧
    decode [0xFD#8, 0x34#8, 0x12#8] = .ok (.sbcAbsx 0x1234#16, []) ∧
    decode [0xFE#8, 0x34#8, 0x12#8] = .ok (.incAbsx 0x1234#16, []) ∧
    decode [0xFF#8] = .ok (.unmappedFF, []) :=
  ⟨rfl, rfl, rfl, rfl, rfl, rfl, rfl, rfl, rfl, rfl, rfl, rfl, rfl, rfl, rfl, rfl⟩

/-- A few words bit by bit: opcode bits 7 to 0, then the operand bytes in the order of R73. -/
theorem test_decode_bits :
    decode [0b10101101#8, 0b00110100#8, 0b00010010#8] = .ok (.ldaAbs 0x1234#16, []) ∧
    decode [0b11101001#8, 0b10110000#8] = .ok (.sbcImm 0xB0#8, []) ∧
    decode [0b01101010#8] = .ok (.rorAcc, []) ∧
    decode [0b00101000#8] = .ok (.plp, []) ∧
    decode [0b11110000#8, 0b10000000#8] = .ok (.beq (-128), []) ∧
    decode [0b01000000#8] = .ok (.rti, []) := by decide

/-- The host's numbering: bit 0 is the least significant bit of the first byte; operand bits past `nbits` are 0. -/
theorem test_decodeTableWord :
    decodeTableWord 24 0x1234AD = some (.ldaAbs 0x1234#16) ∧ decodeTableWord 8 0xAD = some (.ldaAbs 0x0000#16) ∧
    decodeTableWord 16 0xFBD0 = some (.bne (-5)) := by decide

/-! ### Single steps -/

/-- The reset state on the flat RAM of spec/95_test_vectors.md section 2, with the cells given and PC set. -/
def start (pc : Word) (cells : List Host.Cell) : State :=
  { State.reset with pc := pc, bus := { Bus.initial with devices := [{ Device.ram 0 65536 with cells := cells }] } }

/-- What the vectors give after a step: the registers, the packed flags, the halt reason, the counter, how the loop was left
and the bytes at the addresses written. -/
structure View where
  pc : Word
  sp : Byte
  a : Byte
  x : Byte
  y : Byte
  p : Byte
  halt : HaltReason := .none
  count : Nat := 0
  exit : Option RunExit := none
  bytes : List Byte := []
  deriving DecidableEq, Repr

def view (addrs : List Word) (o : Host.Outcome State Fault Refusal) : Option View :=
  match o with
  | .next t => some
      { pc := t.pc, sp := t.sp, a := t.a, x := t.x, y := t.y, p := t.flags.pack, halt := t.haltReason
        count := t.invalidOpcodeCount, exit := t.exit, bytes := addrs.map t.peek }
  | .fault _ => none
  | .refused _ => none

/-- T1 (R131). -/
theorem test_ldaImm :
    view [] (step (start 0x0200#16 [(0x0200, 0xA9)])) = some
      { pc := 0x0202#16, sp := 0xFF#8, a := 0x00#8, x := 0x00#8, y := 0x00#8, p := 0x22#8 } := by decide +kernel

/-- T2 (R131). -/
theorem test_ldaImm_b :
    view [] (step (start 0x0200#16 [(0x0200, 0xA9), (0x0201, 0x80)])) = some
      { pc := 0x0202#16, sp := 0xFF#8, a := 0x80#8, x := 0x00#8, y := 0x00#8, p := 0xA0#8 } := by decide +kernel

/-- T3 (R131). -/
theorem test_ldaZp :
    view [] (step { start 0x0200#16 [(0x0010, 0x7F), (0x0200, 0xA5), (0x0201, 0x10)] with
        flags := { Flags.reset with c := true, v := true } }) = some
      { pc := 0x0202#16, sp := 0xFF#8, a := 0x7F#8, x := 0x00#8, y := 0x00#8, p := 0x61#8 } := by decide +kernel

/-- T4 (R131, R115). -/
theorem test_ldaZpx :
    view [] (step { start 0x0200#16 [(0x0001, 0x55), (0x0101, 0xAA), (0x0200, 0xB5), (0x0201, 0xFF)] with
        x := 0x02#8 }) = some
      { pc := 0x0202#16, sp := 0xFF#8, a := 0x55#8, x := 0x02#8, y := 0x00#8, p := 0x20#8 } := by decide +kernel

/-- T5 (R131, R118). -/
theorem test_ldaAbsx :
    view [] (step { start 0x0200#16 [(0x0000, 0x42), (0x0200, 0xBD), (0x0201, 0xFF), (0x0202, 0xFF)] with
        x := 0x01#8 }) = some
      { pc := 0x0203#16, sp := 0xFF#8, a := 0x42#8, x := 0x01#8, y := 0x00#8, p := 0x20#8 } := by decide +kernel

/-- T6 (R131, R119). -/
theorem test_ldaAbsy :
    view [] (step { start 0x0200#16 [(0x0200, 0xB9), (0x0201, 0xF0), (0x0202, 0x12), (0x1310, 0x99)] with
        y := 0x20#8 }) = some
      { pc := 0x0203#16, sp := 0xFF#8, a := 0x99#8, x := 0x00#8, y := 0x20#8, p := 0xA0#8 } := by decide +kernel

/-- T7 (R131, R121). -/
theorem test_ldaIndx :
    view [] (step { start 0x0200#16 [(0x0024, 0x74), (0x0025, 0x20), (0x0200, 0xA1), (0x0201, 0x20), (0x2074, 0x11)] with
        x := 0x04#8 }) = some
      { pc := 0x0202#16, sp := 0xFF#8, a := 0x11#8, x := 0x04#8, y := 0x00#8, p := 0x20#8 } := by decide +kernel

/-- T8 (R131, R121). -/
theorem test_ldaIndx_b :
    view [] (step (start 0x0200#16 [(0x0000, 0x99), (0x00FF, 0x34), (0x0100, 0x12), (0x0200, 0xA1), (0x0201, 0xFF), (0x1234, 0x5A)])) = some
      { pc := 0x0202#16, sp := 0xFF#8, a := 0x5A#8, x := 0x00#8, y := 0x00#8, p := 0x20#8 } := by decide +kernel

/-- T9 (R131, R122). -/
theorem test_ldaIndy :
    view [] (step { start 0x0200#16 [(0x0086, 0x28), (0x0087, 0x40), (0x0200, 0xB1), (0x0201, 0x86), (0x4038, 0xC3)] with
        y := 0x10#8 }) = some
      { pc := 0x0202#16, sp := 0xFF#8, a := 0xC3#8, x := 0x00#8, y := 0x10#8, p := 0xA0#8 } := by decide +kernel

/-- T10 (R131, R122). -/
theorem test_ldaIndy_b :
    view [] (step { start 0x0200#16 [(0x0086, 0xFF), (0x0087, 0xFF), (0x00FE, 0x07), (0x0200, 0xB1), (0x0201, 0x86)] with
        y := 0xFF#8 }) = some
      { pc := 0x0202#16, sp := 0xFF#8, a := 0x07#8, x := 0x00#8, y := 0xFF#8, p := 0x20#8 } := by decide +kernel

/-- T11 (R132, R116). -/
theorem test_ldxZpy :
    view [] (step { start 0x0200#16 [(0x0200, 0xB6), (0x0201, 0xF0)] with y := 0x20#8 }) = some
      { pc := 0x0202#16, sp := 0xFF#8, a := 0x00#8, x := 0x00#8, y := 0x20#8, p := 0x22#8 } := by decide +kernel

/-- T12 (R133). -/
theorem test_ldyAbsx :
    view [] (step { start 0x0200#16 [(0x0200, 0xBC), (0x0202, 0x30), (0x3001, 0xFF)] with x := 0x01#8 }) = some
      { pc := 0x0203#16, sp := 0xFF#8, a := 0x00#8, x := 0x01#8, y := 0xFF#8, p := 0xA0#8 } := by decide +kernel

/-- T13 (R134). -/
theorem test_staZp :
    view [0x0010#16] (step { start 0x0200#16 [(0x0200, 0x85), (0x0201, 0x10)] with
        flags := { Flags.reset with n := true } }) = some
      { pc := 0x0202#16, sp := 0xFF#8, a := 0x00#8, x := 0x00#8, y := 0x00#8, p := 0xA0#8
        bytes := [0x00#8] } := by decide +kernel

/-- T14 (R134, R122). -/
theorem test_staIndy :
    view [0x3002#16] (step { start 0x0200#16 [(0x0041, 0x30), (0x0200, 0x91), (0x0201, 0x40)] with
        a := 0x77#8, y := 0x02#8 }) = some
      { pc := 0x0202#16, sp := 0xFF#8, a := 0x77#8, x := 0x00#8, y := 0x02#8, p := 0x20#8
        bytes := [0x77#8] } := by decide +kernel

/-- T15 (R135, R116). -/
theorem test_stxZpy :
    view [0x0000#16] (step { start 0x0200#16 [(0x0200, 0x96), (0x0201, 0xFF)] with x := 0x12#8, y := 0x01#8 }) = some
      { pc := 0x0202#16, sp := 0xFF#8, a := 0x00#8, x := 0x12#8, y := 0x01#8, p := 0x20#8
        bytes := [0x12#8] } := by decide +kernel

/-- T16 (R136). -/
theorem test_styAbs :
    view [0x1234#16] (step { start 0x0200#16 [(0x0200, 0x8C), (0x0201, 0x34), (0x0202, 0x12)] with y := 0x80#8 }) = some
      { pc := 0x0203#16, sp := 0xFF#8, a := 0x00#8, x := 0x00#8, y := 0x80#8, p := 0x20#8
        bytes := [0x80#8] } := by decide +kernel

/-- T17 (R137). -/
theorem test_tax :
    view [] (step { start 0x0200#16 [(0x0200, 0xAA)] with a := 0x80#8 }) = some
      { pc := 0x0201#16, sp := 0xFF#8, a := 0x80#8, x := 0x80#8, y := 0x00#8, p := 0xA0#8 } := by decide +kernel

/-- T18 (R138). -/
theorem test_tay :
    view [] (step { start 0x0200#16 [(0x0200, 0xA8)] with flags := { Flags.reset with n := true } }) = some
      { pc := 0x0201#16, sp := 0xFF#8, a := 0x00#8, x := 0x00#8, y := 0x00#8, p := 0x22#8 } := by decide +kernel

/-- T19 (R139). -/
theorem test_txa :
    view [] (step { start 0x0200#16 [(0x0200, 0x8A)] with x := 0x7F#8 }) = some
      { pc := 0x0201#16, sp := 0xFF#8, a := 0x7F#8, x := 0x7F#8, y := 0x00#8, p := 0x20#8 } := by decide +kernel

/-- T20 (R140). -/
theorem test_tya :
    view [] (step { start 0x0200#16 [(0x0200, 0x98)] with y := 0xFF#8 }) = some
      { pc := 0x0201#16, sp := 0xFF#8, a := 0xFF#8, x := 0x00#8, y := 0xFF#8, p := 0xA0#8 } := by decide +kernel

/-- T21 (R141). -/
theorem test_tsx :
    view [] (step { start 0x0200#16 [(0x0200, 0xBA)] with sp := 0xFD#8 }) = some
      { pc := 0x0201#16, sp := 0xFD#8, a := 0x00#8, x := 0xFD#8, y := 0x00#8, p := 0xA0#8 } := by decide +kernel

/-- T22 (R142). -/
theorem test_txs :
    view [] (step { start 0x0200#16 [(0x0200, 0x9A)] with flags := { Flags.reset with n := true } }) = some
      { pc := 0x0201#16, sp := 0x00#8, a := 0x00#8, x := 0x00#8, y := 0x00#8, p := 0x22#8 } := by decide +kernel

/-- T23 (R142). -/
theorem test_txs_b :
    view [] (step { start 0x0200#16 [(0x0200, 0x9A)] with x := 0xFF#8 }) = some
      { pc := 0x0201#16, sp := 0xFF#8, a := 0x00#8, x := 0xFF#8, y := 0x00#8, p := 0xA0#8 } := by decide +kernel

/-- A3 (R151). -/
theorem test_adcImm :
    view [] (step { start 0x0200#16 [(0x0200, 0x69)] with a := 0x7F#8, flags := { Flags.reset with c := true } }) = some
      { pc := 0x0202#16, sp := 0xFF#8, a := 0x80#8, x := 0x00#8, y := 0x00#8, p := 0xE0#8 } := by decide +kernel

/-- A5 (R151). -/
theorem test_adcImm_b :
    view [] (step { start 0x0200#16 [(0x0200, 0x69), (0x0201, 0x01)] with
        a := 0x09#8, flags := { Flags.reset with d := true } }) = some
      { pc := 0x0202#16, sp := 0xFF#8, a := 0x0A#8, x := 0x00#8, y := 0x00#8, p := 0x28#8 } := by decide +kernel

/-- A8 (R151). -/
theorem test_adcZp :
    view [] (step { start 0x0200#16 [(0x0010, 0x40), (0x0200, 0x65), (0x0201, 0x10)] with
        a := 0x3F#8, flags := { Flags.reset with c := true } }) = some
      { pc := 0x0202#16, sp := 0xFF#8, a := 0x80#8, x := 0x00#8, y := 0x00#8, p := 0xE0#8 } := by decide +kernel

/-- A11 (R152). -/
theorem test_sbcImm :
    view [] (step { start 0x0200#16 [(0x0200, 0xE9), (0x0201, 0x01)] with
        a := 0x80#8, flags := { Flags.reset with c := true } }) = some
      { pc := 0x0202#16, sp := 0xFF#8, a := 0x7F#8, x := 0x00#8, y := 0x00#8, p := 0x61#8 } := by decide +kernel

/-- A15 (R152). -/
theorem test_sbcImm_b :
    view [] (step { start 0x0200#16 [(0x0200, 0xE9), (0x0201, 0x05)] with
        a := 0x10#8, flags := { Flags.reset with c := true, d := true } }) = some
      { pc := 0x0202#16, sp := 0xFF#8, a := 0x0B#8, x := 0x00#8, y := 0x00#8, p := 0x29#8 } := by decide +kernel

/-- A19 (R154). -/
theorem test_cmpImm :
    view [] (step { start 0x0200#16 [(0x0200, 0xC9), (0x0201, 0x80)] with a := 0x90#8 }) = some
      { pc := 0x0202#16, sp := 0xFF#8, a := 0x90#8, x := 0x00#8, y := 0x00#8, p := 0xA1#8 } := by decide +kernel

/-- A20 (R154). -/
theorem test_cmpImm_b :
    view [] (step { start 0x0200#16 [(0x0200, 0xC9), (0x0201, 0x80)] with
        a := 0x80#8, flags := { Flags.reset with n := true } }) = some
      { pc := 0x0202#16, sp := 0xFF#8, a := 0x80#8, x := 0x00#8, y := 0x00#8, p := 0x23#8 } := by decide +kernel

/-- A23 (R155). -/
theorem test_cpxImm :
    view [] (step { start 0x0200#16 [(0x0200, 0xE0), (0x0201, 0x0A)] with
        x := 0x08#8, flags := { Flags.reset with c := true } }) = some
      { pc := 0x0202#16, sp := 0xFF#8, a := 0x00#8, x := 0x08#8, y := 0x00#8, p := 0x20#8 } := by decide +kernel

/-- A24 (R156). -/
theorem test_cpyImm :
    view [] (step { start 0x0200#16 [(0x0200, 0xC0), (0x0201, 0x80)] with y := 0xFF#8 }) = some
      { pc := 0x0202#16, sp := 0xFF#8, a := 0x00#8, x := 0x00#8, y := 0xFF#8, p := 0xA1#8 } := by decide +kernel

/-- A25 (R156). -/
theorem test_cpyAbs :
    view [] (step (start 0x0200#16 [(0x0200, 0xCC), (0x0202, 0x30)])) = some
      { pc := 0x0203#16, sp := 0xFF#8, a := 0x00#8, x := 0x00#8, y := 0x00#8, p := 0x23#8 } := by decide +kernel

/-- A26 (R157). -/
theorem test_incZp :
    view [0x0010#16] (step (start 0x0200#16 [(0x0010, 0x7F), (0x0200, 0xE6), (0x0201, 0x10)])) = some
      { pc := 0x0202#16, sp := 0xFF#8, a := 0x00#8, x := 0x00#8, y := 0x00#8, p := 0xA0#8
        bytes := [0x80#8] } := by decide +kernel

/-- A27 (R157). -/
theorem test_incZp_b :
    view [0x0010#16] (step (start 0x0200#16 [(0x0010, 0xFF), (0x0200, 0xE6), (0x0201, 0x10)])) = some
      { pc := 0x0202#16, sp := 0xFF#8, a := 0x00#8, x := 0x00#8, y := 0x00#8, p := 0x22#8
        bytes := [0x00#8] } := by decide +kernel

/-- A28 (R157). -/
theorem test_incAbsx :
    view [0x1300#16] (step { start 0x0200#16 [(0x0200, 0xFE), (0x0201, 0xFF), (0x0202, 0x12)] with x := 0x01#8 }) = some
      { pc := 0x0203#16, sp := 0xFF#8, a := 0x00#8, x := 0x01#8, y := 0x00#8, p := 0x20#8
        bytes := [0x01#8] } := by decide +kernel

/-- A29 (R158). -/
theorem test_decZp :
    view [0x0010#16] (step (start 0x0200#16 [(0x0010, 0x01), (0x0200, 0xC6), (0x0201, 0x10)])) = some
      { pc := 0x0202#16, sp := 0xFF#8, a := 0x00#8, x := 0x00#8, y := 0x00#8, p := 0x22#8
        bytes := [0x00#8] } := by decide +kernel

/-- A30 (R158). -/
theorem test_decZp_b :
    view [0x0010#16] (step { start 0x0200#16 [(0x0200, 0xC6), (0x0201, 0x10)] with
        flags := { Flags.reset with c := true } }) = some
      { pc := 0x0202#16, sp := 0xFF#8, a := 0x00#8, x := 0x00#8, y := 0x00#8, p := 0xA1#8
        bytes := [0xFF#8] } := by decide +kernel

/-- A31 (R159). -/
theorem test_inx :
    view [] (step { start 0x0200#16 [(0x0200, 0xE8)] with x := 0xFF#8 }) = some
      { pc := 0x0201#16, sp := 0xFF#8, a := 0x00#8, x := 0x00#8, y := 0x00#8, p := 0x22#8 } := by decide +kernel

/-- A32 (R160). -/
theorem test_iny :
    view [] (step { start 0x0200#16 [(0x0200, 0xC8)] with y := 0x7F#8 }) = some
      { pc := 0x0201#16, sp := 0xFF#8, a := 0x00#8, x := 0x00#8, y := 0x80#8, p := 0xA0#8 } := by decide +kernel

/-- A33 (R161). -/
theorem test_dex :
    view [] (step { start 0x0200#16 [(0x0200, 0xCA)] with x := 0x01#8 }) = some
      { pc := 0x0201#16, sp := 0xFF#8, a := 0x00#8, x := 0x00#8, y := 0x00#8, p := 0x22#8 } := by decide +kernel

/-- A34 (R161). -/
theorem test_dex_b :
    view [] (step (start 0x0200#16 [(0x0200, 0xCA)])) = some
      { pc := 0x0201#16, sp := 0xFF#8, a := 0x00#8, x := 0xFF#8, y := 0x00#8, p := 0xA0#8 } := by decide +kernel

/-- A35 (R162). -/
theorem test_dey :
    view [] (step { start 0x0200#16 [(0x0200, 0x88)] with y := 0x80#8 }) = some
      { pc := 0x0201#16, sp := 0xFF#8, a := 0x00#8, x := 0x00#8, y := 0x7F#8, p := 0x20#8 } := by decide +kernel

/-- L1 (R170). -/
theorem test_andImm :
    view [] (step { start 0x0200#16 [(0x0200, 0x29), (0x0201, 0x3C)] with a := 0xF0#8 }) = some
      { pc := 0x0202#16, sp := 0xFF#8, a := 0x30#8, x := 0x00#8, y := 0x00#8, p := 0x20#8 } := by decide +kernel

/-- L2 (R170). -/
theorem test_andImm_b :
    view [] (step { start 0x0200#16 [(0x0200, 0x29), (0x0201, 0x0F)] with
        a := 0xF0#8, flags := { Flags.reset with c := true, v := true } }) = some
      { pc := 0x0202#16, sp := 0xFF#8, a := 0x00#8, x := 0x00#8, y := 0x00#8, p := 0x63#8 } := by decide +kernel

/-- L3 (R171). -/
theorem test_oraImm :
    view [] (step { start 0x0200#16 [(0x0200, 0x09), (0x0201, 0x80)] with a := 0x0F#8 }) = some
      { pc := 0x0202#16, sp := 0xFF#8, a := 0x8F#8, x := 0x00#8, y := 0x00#8, p := 0xA0#8 } := by decide +kernel

/-- L4 (R171). -/
theorem test_oraImm_b :
    view [] (step (start 0x0200#16 [(0x0200, 0x09)])) = some
      { pc := 0x0202#16, sp := 0xFF#8, a := 0x00#8, x := 0x00#8, y := 0x00#8, p := 0x22#8 } := by decide +kernel

/-- L5 (R172). -/
theorem test_eorImm :
    view [] (step { start 0x0200#16 [(0x0200, 0x49), (0x0201, 0xAA)] with a := 0xAA#8 }) = some
      { pc := 0x0202#16, sp := 0xFF#8, a := 0x00#8, x := 0x00#8, y := 0x00#8, p := 0x22#8 } := by decide +kernel

/-- L6 (R172). -/
theorem test_eorImm_b :
    view [] (step { start 0x0200#16 [(0x0200, 0x49), (0x0201, 0xFF)] with a := 0x0F#8 }) = some
      { pc := 0x0202#16, sp := 0xFF#8, a := 0xF0#8, x := 0x00#8, y := 0x00#8, p := 0xA0#8 } := by decide +kernel

/-- L7 (R173). -/
theorem test_bitZp :
    view [] (step { start 0x0200#16 [(0x0010, 0xC0), (0x0200, 0x24), (0x0201, 0x10)] with a := 0x01#8 }) = some
      { pc := 0x0202#16, sp := 0xFF#8, a := 0x01#8, x := 0x00#8, y := 0x00#8, p := 0xE2#8 } := by decide +kernel

/-- L8 (R173). -/
theorem test_bitZp_b :
    view [] (step { start 0x0200#16 [(0x0010, 0x3F), (0x0200, 0x24), (0x0201, 0x10)] with
        a := 0xFF#8, flags := { Flags.reset with c := true, z := true, v := true, n := true } }) = some
      { pc := 0x0202#16, sp := 0xFF#8, a := 0xFF#8, x := 0x00#8, y := 0x00#8, p := 0x21#8 } := by decide +kernel

/-- L9 (R173). -/
theorem test_bitAbs :
    view [] (step (start 0x0200#16 [(0x0200, 0x2C), (0x0202, 0x30), (0x3000, 0x40)])) = some
      { pc := 0x0203#16, sp := 0xFF#8, a := 0x00#8, x := 0x00#8, y := 0x00#8, p := 0x62#8 } := by decide +kernel

/-- L10 (R175). -/
theorem test_aslAcc :
    view [] (step { start 0x0200#16 [(0x0200, 0x0A)] with a := 0x41#8 }) = some
      { pc := 0x0201#16, sp := 0xFF#8, a := 0x82#8, x := 0x00#8, y := 0x00#8, p := 0xA0#8 } := by decide +kernel

/-- L11 (R175). -/
theorem test_aslAcc_b :
    view [] (step { start 0x0200#16 [(0x0200, 0x0A)] with a := 0x80#8 }) = some
      { pc := 0x0201#16, sp := 0xFF#8, a := 0x00#8, x := 0x00#8, y := 0x00#8, p := 0x23#8 } := by decide +kernel

/-- L12 (R175). -/
theorem test_aslZp :
    view [0x0010#16] (step (start 0x0200#16 [(0x0010, 0xFF), (0x0200, 0x06), (0x0201, 0x10)])) = some
      { pc := 0x0202#16, sp := 0xFF#8, a := 0x00#8, x := 0x00#8, y := 0x00#8, p := 0xA1#8
        bytes := [0xFE#8] } := by decide +kernel

/-- L13 (R176). -/
theorem test_lsrZp :
    view [0x0010#16] (step (start 0x0200#16 [(0x0010, 0x03), (0x0200, 0x46), (0x0201, 0x10)])) = some
      { pc := 0x0202#16, sp := 0xFF#8, a := 0x00#8, x := 0x00#8, y := 0x00#8, p := 0x21#8
        bytes := [0x01#8] } := by decide +kernel

/-- L14 (R176). -/
theorem test_lsrAcc :
    view [] (step { start 0x0200#16 [(0x0200, 0x4A)] with a := 0x01#8, flags := { Flags.reset with n := true } }) = some
      { pc := 0x0201#16, sp := 0xFF#8, a := 0x00#8, x := 0x00#8, y := 0x00#8, p := 0x23#8 } := by decide +kernel

/-- L15 (R176). -/
theorem test_lsrAcc_b :
    view [] (step { start 0x0200#16 [(0x0200, 0x4A)] with a := 0x80#8, flags := { Flags.reset with c := true } }) = some
      { pc := 0x0201#16, sp := 0xFF#8, a := 0x40#8, x := 0x00#8, y := 0x00#8, p := 0x20#8 } := by decide +kernel

/-- L16 (R177). -/
theorem test_rolAcc :
    view [] (step { start 0x0200#16 [(0x0200, 0x2A)] with a := 0x40#8, flags := { Flags.reset with c := true } }) = some
      { pc := 0x0201#16, sp := 0xFF#8, a := 0x81#8, x := 0x00#8, y := 0x00#8, p := 0xA0#8 } := by decide +kernel

/-- L17 (R177). -/
theorem test_rolAcc_b :
    view [] (step { start 0x0200#16 [(0x0200, 0x2A)] with a := 0x80#8 }) = some
      { pc := 0x0201#16, sp := 0xFF#8, a := 0x00#8, x := 0x00#8, y := 0x00#8, p := 0x23#8 } := by decide +kernel

/-- L18 (R177). -/
theorem test_rolAbs :
    view [0x3000#16] (step (start 0x0200#16 [(0x0200, 0x2E), (0x0202, 0x30), (0x3000, 0xFF)])) = some
      { pc := 0x0203#16, sp := 0xFF#8, a := 0x00#8, x := 0x00#8, y := 0x00#8, p := 0xA1#8
        bytes := [0xFE#8] } := by decide +kernel

/-- L19 (R178). -/
theorem test_rorAcc :
    view [] (step { start 0x0200#16 [(0x0200, 0x6A)] with a := 0x01#8, flags := { Flags.reset with c := true } }) = some
      { pc := 0x0201#16, sp := 0xFF#8, a := 0x80#8, x := 0x00#8, y := 0x00#8, p := 0xA1#8 } := by decide +kernel

/-- L20 (R178). -/
theorem test_rorAcc_b :
    view [] (step { start 0x0200#16 [(0x0200, 0x6A)] with a := 0x01#8 }) = some
      { pc := 0x0201#16, sp := 0xFF#8, a := 0x00#8, x := 0x00#8, y := 0x00#8, p := 0x23#8 } := by decide +kernel

/-- L21 (R178). -/
theorem test_rorZpx :
    view [0x0010#16] (step { start 0x0200#16 [(0x0010, 0x02), (0x0200, 0x76), (0x0201, 0x0F)] with
        x := 0x01#8, flags := { Flags.reset with c := true } }) = some
      { pc := 0x0202#16, sp := 0xFF#8, a := 0x00#8, x := 0x01#8, y := 0x00#8, p := 0xA0#8
        bytes := [0x81#8] } := by decide +kernel

/-- S1 (R194). -/
theorem test_pha :
    view [0x01FF#16] (step { start 0x0200#16 [(0x0200, 0x48)] with a := 0x34#8 }) = some
      { pc := 0x0201#16, sp := 0xFE#8, a := 0x34#8, x := 0x00#8, y := 0x00#8, p := 0x20#8
        bytes := [0x34#8] } := by decide +kernel

/-- S2 (R194). -/
theorem test_pha_b :
    view [0x0100#16] (step { start 0x0200#16 [(0x0200, 0x48)] with a := 0x34#8, sp := 0x00#8 }) = some
      { pc := 0x0201#16, sp := 0xFF#8, a := 0x34#8, x := 0x00#8, y := 0x00#8, p := 0x30#8
        halt := .stackOverflow, exit := some .halted, bytes := [0x34#8] } := by decide +kernel

/-- S3 (R195). -/
theorem test_pla :
    view [] (step { start 0x0200#16 [(0x01FF, 0x80), (0x0200, 0x68)] with sp := 0xFE#8 }) = some
      { pc := 0x0201#16, sp := 0xFF#8, a := 0x80#8, x := 0x00#8, y := 0x00#8, p := 0xA0#8 } := by decide +kernel

/-- S4 (R195). -/
theorem test_pla_b :
    view [] (step { start 0x0200#16 [(0x0200, 0x68)] with a := 0x55#8 }) = some
      { pc := 0x0201#16, sp := 0x00#8, a := 0x00#8, x := 0x00#8, y := 0x00#8, p := 0x32#8
        halt := .stackUnderflow, exit := some .halted } := by decide +kernel

/-- S5 (R196). -/
theorem test_php :
    view [0x01FF#16] (step { start 0x0200#16 [(0x0200, 0x08)] with flags := { Flags.reset with c := true } }) = some
      { pc := 0x0201#16, sp := 0xFE#8, a := 0x00#8, x := 0x00#8, y := 0x00#8, p := 0x21#8
        bytes := [0x21#8] } := by decide +kernel

/-- S6 (R196). -/
theorem test_php_b :
    view [0x01FF#16] (step { start 0x0200#16 [(0x0200, 0x08)] with
        flags := { Flags.reset with c := true, z := true, i := true, d := true, v := true, n := true } }) = some
      { pc := 0x0201#16, sp := 0xFE#8, a := 0x00#8, x := 0x00#8, y := 0x00#8, p := 0xEF#8
        bytes := [0xEF#8] } := by decide +kernel

/-- S7 (R197). -/
theorem test_plp :
    view [] (step { start 0x0200#16 [(0x01FF, 0xC3), (0x0200, 0x28)] with sp := 0xFE#8 }) = some
      { pc := 0x0201#16, sp := 0xFF#8, a := 0x00#8, x := 0x00#8, y := 0x00#8, p := 0xE3#8 } := by decide +kernel

/-- S10 (R197). -/
theorem test_plp_b :
    view [] (step (start 0x0200#16 [(0x0200, 0x28)])) = some
      { pc := 0x0201#16, sp := 0x00#8, a := 0x00#8, x := 0x00#8, y := 0x00#8, p := 0x30#8
        halt := .stackUnderflow, exit := some .halted } := by decide +kernel

/-- B1 (R201). -/
theorem test_bpl :
    view [] (step (start 0x0200#16 [(0x0200, 0x10), (0x0201, 0x02)])) = some
      { pc := 0x0204#16, sp := 0xFF#8, a := 0x00#8, x := 0x00#8, y := 0x00#8, p := 0x20#8 } := by decide +kernel

/-- B2 (R201). -/
theorem test_bpl_b :
    view [] (step { start 0x0200#16 [(0x0200, 0x10), (0x0201, 0x02)] with
        flags := { Flags.reset with n := true } }) = some
      { pc := 0x0202#16, sp := 0xFF#8, a := 0x00#8, x := 0x00#8, y := 0x00#8, p := 0xA0#8 } := by decide +kernel

/-- B3 (R202). -/
theorem test_bmi :
    view [] (step { start 0x0200#16 [(0x0200, 0x30), (0x0201, 0xFE)] with
        flags := { Flags.reset with n := true } }) = some
      { pc := 0x0200#16, sp := 0xFF#8, a := 0x00#8, x := 0x00#8, y := 0x00#8, p := 0xA0#8 } := by decide +kernel

/-- B4 (R203). -/
theorem test_bvc :
    view [] (step (start 0x0300#16 [(0x0300, 0x50), (0x0301, 0x10)])) = some
      { pc := 0x0312#16, sp := 0xFF#8, a := 0x00#8, x := 0x00#8, y := 0x00#8, p := 0x20#8 } := by decide +kernel

/-- B5 (R204). -/
theorem test_bvs :
    view [] (step (start 0x0300#16 [(0x0300, 0x70), (0x0301, 0x10)])) = some
      { pc := 0x0302#16, sp := 0xFF#8, a := 0x00#8, x := 0x00#8, y := 0x00#8, p := 0x20#8 } := by decide +kernel

/-- B6 (R205). -/
theorem test_bcc :
    view [] (step (start 0x0205#16 [(0x0205, 0x90), (0x0206, 0x03)])) = some
      { pc := 0x020A#16, sp := 0xFF#8, a := 0x00#8, x := 0x00#8, y := 0x00#8, p := 0x20#8 } := by decide +kernel

/-- B7 (R206). -/
theorem test_bcs :
    view [] (step { start 0x0205#16 [(0x0205, 0xB0), (0x0206, 0x80)] with
        flags := { Flags.reset with c := true } }) = some
      { pc := 0x0187#16, sp := 0xFF#8, a := 0x00#8, x := 0x00#8, y := 0x00#8, p := 0x21#8 } := by decide +kernel

/-- B8 (R207). -/
theorem test_bne :
    view [] (step (start 0x0210#16 [(0x0210, 0xD0), (0x0211, 0xFB)])) = some
      { pc := 0x020D#16, sp := 0xFF#8, a := 0x00#8, x := 0x00#8, y := 0x00#8, p := 0x20#8 } := by decide +kernel

/-- B9 (R208). -/
theorem test_beq :
    view [] (step { start 0xFFF0#16 [(0xFFF0, 0xF0), (0xFFF1, 0x7F)] with
        flags := { Flags.reset with z := true } }) = some
      { pc := 0x0071#16, sp := 0xFF#8, a := 0x00#8, x := 0x00#8, y := 0x00#8, p := 0x22#8 } := by decide +kernel

/-- B10 (R208). -/
theorem test_beq_b :
    view [] (step { start 0x0010#16 [(0x0010, 0xF0), (0x0011, 0x80)] with
        flags := { Flags.reset with z := true } }) = some
      { pc := 0xFF92#16, sp := 0xFF#8, a := 0x00#8, x := 0x00#8, y := 0x00#8, p := 0x22#8 } := by decide +kernel

/-- B12 (R209). -/
theorem test_jmpAbs :
    view [] (step (start 0x0200#16 [(0x0200, 0x4C), (0x0202, 0x90)])) = some
      { pc := 0x9000#16, sp := 0xFF#8, a := 0x00#8, x := 0x00#8, y := 0x00#8, p := 0x20#8 } := by decide +kernel

/-- B13 (R209). -/
theorem test_jmpInd :
    view [] (step (start 0x0200#16 [(0x0121, 0x90), (0x0200, 0x6C), (0x0201, 0x20), (0x0202, 0x01)])) = some
      { pc := 0x9000#16, sp := 0xFF#8, a := 0x00#8, x := 0x00#8, y := 0x00#8, p := 0x20#8 } := by decide +kernel

/-- B14 (R209). -/
theorem test_jmpInd_b :
    view [] (step (start 0x0200#16 [(0x0200, 0x6C), (0x0201, 0xFF), (0x0202, 0x12), (0x1200, 0x78), (0x12FF, 0x34), (0x1300, 0x56)])) = some
      { pc := 0x5634#16, sp := 0xFF#8, a := 0x00#8, x := 0x00#8, y := 0x00#8, p := 0x20#8 } := by decide +kernel

/-- B15 (R210). -/
theorem test_jsr :
    view [0x01FF#16, 0x01FE#16] (step (start 0x0200#16 [(0x0200, 0x20), (0x0201, 0x10), (0x0202, 0x02)])) = some
      { pc := 0x0210#16, sp := 0xFD#8, a := 0x00#8, x := 0x00#8, y := 0x00#8, p := 0x20#8
        bytes := [0x02#8, 0x02#8] } := by decide +kernel

/-- B16 (R210). -/
theorem test_jsr_b :
    view [0x0101#16, 0x0100#16] (step { start 0x0200#16 [(0x0200, 0x20), (0x0201, 0x10), (0x0202, 0x02)] with sp := 0x01#8 }) = some
      { pc := 0x0210#16, sp := 0xFF#8, a := 0x00#8, x := 0x00#8, y := 0x00#8, p := 0x30#8
        halt := .stackOverflow, exit := some .halted, bytes := [0x02#8, 0x02#8] } := by decide +kernel

/-- B18 (R211). -/
theorem test_rts :
    view [] (step { start 0x0200#16 [(0x01FE, 0xFF), (0x01FF, 0xFF), (0x0200, 0x60)] with sp := 0xFD#8 }) = some
      { pc := 0x0000#16, sp := 0xFF#8, a := 0x00#8, x := 0x00#8, y := 0x00#8, p := 0x20#8 } := by decide +kernel

/-- B19 (R211). -/
theorem test_rts_b :
    view [] (step { start 0x0200#16 [(0x0100, 0x34), (0x01FF, 0x12), (0x0200, 0x60)] with sp := 0xFE#8 }) = some
      { pc := 0x3413#16, sp := 0x00#8, a := 0x00#8, x := 0x00#8, y := 0x00#8, p := 0x30#8
        halt := .stackUnderflow, exit := some .halted } := by decide +kernel

/-- F1 (R220). -/
theorem test_clc :
    view [] (step { start 0x0200#16 [(0x0200, 0x18)] with flags := { Flags.reset with c := true } }) = some
      { pc := 0x0201#16, sp := 0xFF#8, a := 0x00#8, x := 0x00#8, y := 0x00#8, p := 0x20#8 } := by decide +kernel

/-- F2 (R221). -/
theorem test_sec :
    view [] (step (start 0x0200#16 [(0x0200, 0x38)])) = some
      { pc := 0x0201#16, sp := 0xFF#8, a := 0x00#8, x := 0x00#8, y := 0x00#8, p := 0x21#8 } := by decide +kernel

/-- F3 (R222). -/
theorem test_cli :
    view [] (step { start 0x0200#16 [(0x0200, 0x58)] with flags := { Flags.reset with i := true } }) = some
      { pc := 0x0201#16, sp := 0xFF#8, a := 0x00#8, x := 0x00#8, y := 0x00#8, p := 0x20#8 } := by decide +kernel

/-- F4 (R223). -/
theorem test_sei :
    view [] (step (start 0x0200#16 [(0x0200, 0x78)])) = some
      { pc := 0x0201#16, sp := 0xFF#8, a := 0x00#8, x := 0x00#8, y := 0x00#8, p := 0x24#8 } := by decide +kernel

/-- F5 (R224). -/
theorem test_cld :
    view [] (step { start 0x0200#16 [(0x0200, 0xD8)] with flags := { Flags.reset with d := true } }) = some
      { pc := 0x0201#16, sp := 0xFF#8, a := 0x00#8, x := 0x00#8, y := 0x00#8, p := 0x20#8 } := by decide +kernel

/-- F6 (R225). -/
theorem test_sed :
    view [] (step (start 0x0200#16 [(0x0200, 0xF8)])) = some
      { pc := 0x0201#16, sp := 0xFF#8, a := 0x00#8, x := 0x00#8, y := 0x00#8, p := 0x28#8 } := by decide +kernel

/-- F7 (R226). -/
theorem test_clv :
    view [] (step { start 0x0200#16 [(0x0200, 0xB8)] with flags := { Flags.reset with v := true } }) = some
      { pc := 0x0201#16, sp := 0xFF#8, a := 0x00#8, x := 0x00#8, y := 0x00#8, p := 0x20#8 } := by decide +kernel

/-- F8 (R227). -/
theorem test_nop :
    view [] (step { start 0x0200#16 [(0x0200, 0xEA)] with
        a := 0x12#8, flags := { Flags.reset with c := true, n := true } }) = some
      { pc := 0x0201#16, sp := 0xFF#8, a := 0x12#8, x := 0x00#8, y := 0x00#8, p := 0xA1#8 } := by decide +kernel

/-- F9 (R228). -/
theorem test_brk :
    view [] (step { start 0x0200#16 [] with a := 0x34#8 }) = some
      { pc := 0x0201#16, sp := 0xFF#8, a := 0x34#8, x := 0x00#8, y := 0x00#8, p := 0x30#8
        halt := .breakHalt, exit := some .halted } := by decide +kernel

/-- F10 (R229). -/
theorem test_rti :
    view [] (step { start 0x0200#16 [(0x01FD, 0x21), (0x01FE, 0x34), (0x01FF, 0x12), (0x0200, 0x40)] with
        sp := 0xFC#8, flags := { Flags.reset with i := true } }) = some
      { pc := 0x1234#16, sp := 0xFF#8, a := 0x00#8, x := 0x00#8, y := 0x00#8, p := 0x21#8 } := by decide +kernel

/-- F12 (R229). -/
theorem test_rti_b :
    view [] (step { start 0x0200#16 [(0x0100, 0x02), (0x0101, 0x03), (0x01FF, 0x01), (0x0200, 0x40)] with
        sp := 0xFE#8 }) = some
      { pc := 0x0302#16, sp := 0x01#8, a := 0x00#8, x := 0x00#8, y := 0x00#8, p := 0x31#8
        halt := .stackUnderflow, exit := some .halted } := by decide +kernel

/-- F14 (R230). -/
theorem test_unmapped02 :
    view [] (step (start 0x0200#16 [(0x0200, 0x02)])) = some
      { pc := 0x0201#16, sp := 0xFF#8, a := 0x00#8, x := 0x00#8, y := 0x00#8, p := 0x20#8
        count := 1 } := by decide +kernel

/-- F15 (R230). -/
theorem test_unmappedFF :
    view [] (step { start 0x0200#16 [(0x0200, 0xFF)] with
        a := 0x12#8, flags := { Flags.reset with c := true, n := true } }) = some
      { pc := 0x0201#16, sp := 0xFF#8, a := 0x12#8, x := 0x00#8, y := 0x00#8, p := 0xA1#8
        count := 1 } := by decide +kernel

/-! ### The adder and the comparison on the other operand pairs of spec/95_test_vectors.md section 3.2 -/

/-- A1, A2, A4, A6, A7 (R150). -/
theorem test_addWithCarry :
    addWithCarry 0x50#8 0x50#8 false = { result := 0xA0#8, carry := false, overflow := true } ∧
    addWithCarry 0xFF#8 0x00#8 true = { result := 0x00#8, carry := true, overflow := false } ∧
    addWithCarry 0x80#8 0x80#8 false = { result := 0x00#8, carry := true, overflow := true } ∧
    addWithCarry 0x01#8 0xFF#8 false = { result := 0x00#8, carry := true, overflow := false } ∧
    addWithCarry 0xD0#8 0x90#8 false = { result := 0x60#8, carry := true, overflow := true } := by decide

/-- A9, A10, A12, A14, A16 (R152). -/
theorem test_subtract :
    addWithCarry 0x50#8 (onesComplement 0xB0#8) true = { result := 0xA0#8, carry := false, overflow := true } ∧
    addWithCarry 0x00#8 (onesComplement 0x00#8) false = { result := 0xFF#8, carry := false, overflow := false } ∧
    addWithCarry 0x34#8 (onesComplement 0x34#8) true = { result := 0x00#8, carry := true, overflow := false } ∧
    addWithCarry 0xD0#8 (onesComplement 0x70#8) true = { result := 0x60#8, carry := true, overflow := true } ∧
    addWithCarry 0x7F#8 (onesComplement 0xFF#8) false = { result := 0x7F#8, carry := false, overflow := false } := by
  decide

/-- A37: the same carry-in for both gives a - 1 (R163, spec/90_conflicts.md C2). -/
theorem test_roundTrip_same_carry :
    (addWithCarry (addWithCarry 0x50#8 0x50#8 false).result (onesComplement 0x50#8) false).result = 0x4F#8 := by decide

/-! ### Interrupt entry and the order of an iteration (section 3.7) -/

/-- NOPs at 0x0200 and the vectors 0x0310, 0x0200, 0x0300. -/
def atNops : State :=
  start 0x0203#16
    [(0x0200, 0xEA), (0x0201, 0xEA), (0x0202, 0xEA), (0x0203, 0xEA), (0xFFFA, 0x10), (0xFFFB, 0x03), (0xFFFD, 0x02),
      (0xFFFF, 0x03)]

/-- The two pending flags and `servicing` after a step. -/
def signals (o : Host.Outcome State Fault Refusal) : Option (Bool × Bool × Bool) :=
  match o with
  | .next t => some (t.nmiPending, t.irqPending, t.servicing)
  | .fault _ => none
  | .refused _ => none

/-- An iteration whose fetch is denied. -/
def denied : HostInput := { HostInput.quiet with fetchPermit := false }

/-- I1 (R246). -/
theorem test_nmi_entry :
    view [0x01FF#16, 0x01FE#16, 0x01FD#16]
      (step { atNops with nmiPending := true, flags := { Flags.reset with c := true } }) = some
      { pc := 0x0310#16, sp := 0xFC#8, a := 0#8, x := 0#8, y := 0#8, p := 0x21#8, bytes := [0x02#8, 0x03#8, 0x21#8] } := by
  decide +kernel

/-- I2 (R247): the pushed byte has I = 0, the flags afterwards I = 1. -/
theorem test_irq_entry :
    view [0x01FF#16, 0x01FE#16, 0x01FD#16] (step { atNops with irqPending := true }) = some
      { pc := 0x0300#16, sp := 0xFC#8, a := 0#8, x := 0#8, y := 0#8, p := 0x24#8, bytes := [0x02#8, 0x03#8, 0x20#8] } ∧
    signals (step { atNops with irqPending := true }) = some (false, false, true) := by
  decide +kernel

/-- I3 (R245): an IRQ masked by I stays pending, and the instruction is executed. -/
theorem test_irq_masked :
    view [] (step { atNops with irqPending := true, flags := { Flags.reset with i := true } }) = some
      { pc := 0x0204#16, sp := 0xFF#8, a := 0#8, x := 0#8, y := 0#8, p := 0x24#8 } ∧
    signals (step { atNops with irqPending := true, flags := { Flags.reset with i := true } }) =
      some (false, true, false) := by
  decide +kernel

/-- I4 (R248): NMI before IRQ, which stays pending. -/
theorem test_nmi_first :
    signals (step { atNops with irqPending := true, nmiPending := true }) = some (false, true, true) := by
  decide +kernel

/-- I5 (R249): `servicing` holds back both. -/
theorem test_no_nesting :
    view [] (step { atNops with irqPending := true, nmiPending := true, servicing := true }) = some
      { pc := 0x0204#16, sp := 0xFF#8, a := 0#8, x := 0#8, y := 0#8, p := 0x20#8 } ∧
    signals (step { atNops with irqPending := true, nmiPending := true, servicing := true }) =
      some (true, true, true) := by
  decide +kernel

/-- I6 (R246): an NMI entry leaves I as it was. -/
theorem test_nmi_keeps_i :
    view [0x01FD#16] (step { atNops with nmiPending := true, flags := { Flags.reset with i := true, n := true } }) = some
      { pc := 0x0310#16, sp := 0xFC#8, a := 0#8, x := 0#8, y := 0#8, p := 0xA4#8, bytes := [0xA4#8] } := by
  decide +kernel

/-- I7, I8 (R91): a denied fetch does not hold back an entry; with nothing to enter nothing happens. -/
theorem test_denied :
    view [] (step { atNops with nmiPending := true, inputs := [denied] }) = some
      { pc := 0x0310#16, sp := 0xFC#8, a := 0#8, x := 0#8, y := 0#8, p := 0x20#8 } ∧
    step { atNops with inputs := [denied] } = .next atNops :=
  ⟨by decide +kernel, rfl⟩

/-- I9 (R253): the second push of an entry overflows; the entry completes and the run ends. -/
theorem test_overflow_in_irq_entry :
    view [0x0101#16, 0x0100#16, 0x01FF#16] (step { atNops with irqPending := true, sp := 0x01#8 }) = some
      { pc := 0x0300#16, sp := 0xFE#8, a := 0#8, x := 0#8, y := 0#8, p := 0x34#8, halt := .stackOverflow
        exit := some .halted, bytes := [0x02#8, 0x03#8, 0x30#8] } := by
  decide +kernel

/-- I11 (R253): the push of the flag byte itself overflows; it was packed before. -/
theorem test_overflow_at_third_push :
    view [0x0102#16, 0x0101#16, 0x0100#16]
      (step { atNops with nmiPending := true, sp := 0x02#8, flags := { Flags.reset with z := true } }) = some
      { pc := 0x0310#16, sp := 0xFF#8, a := 0#8, x := 0#8, y := 0#8, p := 0x32#8, halt := .stackOverflow
        exit := some .halted, bytes := [0x02#8, 0x03#8, 0x22#8] } := by
  decide +kernel

/-! ### Bus vectors (section 4.1) -/

/-- RAM from 0x0000, ROM from 0xC000 with 0x42 at offset 0x0010, and nothing between. -/
def twoDevices : State :=
  { State.reset with
    bus := { Bus.initial with devices := [Device.rom 0xC000 0x4000 [(0x0010, 0x42)], Device.ram 0x0000 0x8000] } }

/-- M1, M10 (R43). -/
theorem test_busRead_unowned :
    busRead 0x9000#16 twoDevices = (0x00#8, twoDevices) ∧ busRead 0xC010#16 twoDevices = (0x42#8, twoDevices) := by
  decide +kernel

/-- M2 (R44, R45). -/
theorem test_busWrite_unowned :
    busWrite 0x9000#16 0x55#8 twoDevices =
      { twoDevices with bus := { twoDevices.bus with wmLow := 0x9000#16, wmHigh := 0x9000#16 } } := by
  decide +kernel

/-- M3, M4 (R44, R58): RAM takes the byte, the ROM does not, the watermark moves. -/
theorem test_busWrite_ram_rom :
    (busRead 0x1234#16 (busWrite 0x1234#16 0xAB#8 twoDevices)).1 = 0xAB#8 ∧
    (busRead 0xC010#16 (busWrite 0xC010#16 0x99#8 twoDevices)).1 = 0x42#8 ∧
    (busWrite 0xC010#16 0x99#8 twoDevices).bus.wmLow = 0xC010#16 := by
  decide +kernel

/-- M5 and M7 (R46, R47). -/
theorem test_words :
    (readWord 0x7FFF#16 (busWrite 0x7FFF#16 0x34#8 twoDevices)).1 = 0x0034#16 ∧
    (writeWord 0x00FF#16 0xBEEF#16 twoDevices).peek 0x00FF#16 = 0xEF#8 ∧
    (writeWord 0x00FF#16 0xBEEF#16 twoDevices).peek 0x0100#16 = 0xBE#8 := by
  decide +kernel

/-- M6 (R46): the high byte of the word at 0xFFFF is at 0x0000. -/
theorem test_word_wraps :
    (readWord 0xFFFF#16
      { State.reset with
        bus := { Bus.initial with devices := [Device.rom 0xC000 0x4000 [(0x3FFF, 0x12)],
          { Device.ram 0x0000 0x8000 with cells := [(0, 0x80)] }] } }).1 = 0x8012#16 := by
  decide +kernel

/-- M9 (R41): the last slot is allowed, one more is refused. -/
theorem test_install :
    Completes (install (Device.ram 0xF000 0x1000) State.reset) ∧
    install (Device.ram 0xF000 0x1001) State.reset = .refused .installPastTop := by
  exact ⟨⟨_, rfl⟩, rfl⟩

/-- M11 (R58): burn mode makes the ROM writable. -/
theorem test_burn :
    (busRead 0xC010#16 (busWrite 0xC010#16 0x99#8 (setBurn 0xC000 true twoDevices))).1 = 0x99#8 := by
  decide +kernel

/-- M12 (R42): the later device takes its range. -/
theorem test_owner_override :
    let s : State := { State.reset with
      bus := { Bus.initial with devices := [Device.ram 0x4000 0x1000, Device.ram 0x0000 0x8000] } }
    (busWrite 0x4800#16 7#8 s).bus.devices.map (fun d => d.cells) = [[(0x0800, 7#8)], []] ∧
    (busWrite 0x5000#16 8#8 s).bus.devices.map (fun d => d.cells) = [[], [(0x5000, 8#8)]] ∧
    (busWrite 0x3FFF#16 9#8 s).bus.devices.map (fun d => d.cells) = [[], [(0x3FFF, 9#8)]] :=
  ⟨rfl, rfl, rfl⟩

/-- M13 (R43, R228): an unowned slot fetches as BRK. -/
theorem test_fetch_unowned :
    view [] (step { twoDevices with pc := 0x9000#16 }) = some
      { pc := 0x9001#16, sp := 0xFF#8, a := 0#8, x := 0#8, y := 0#8, p := 0x30#8, halt := .breakHalt
        exit := some .halted } := by
  decide +kernel

/-! ### Reset, the host and the loader (sections 4.2 and 5) -/

/-- P1 (R270): PC comes from the vector, the bytes in memory stay. -/
theorem test_engineReset :
    engineReset { start 0x1111#16 [(0x8000, 0xA9), (0xFFFD, 0x80)] with a := 7#8, sp := 3#8, servicing := true } =
      { start 0x8000#16 [(0x8000, 0xA9), (0xFFFD, 0x80)] with a := 0#8 } := by
  decide +kernel

/-- R16: one notification per changed quantity, none for a value already held. -/
theorem test_notifications :
    notifications State.reset { State.reset with a := 5#8, flags := { Flags.reset with n := true } } =
      [(.a, 5), (.negative, 1)] ∧ notifications State.reset State.reset = [] := by
  decide

/-- The address, offset and address of the label of a reference, and what it patches in. -/
def refAt (site : RefSite) (address : Nat) (offset : Int) (selector : Selector) : PendingRef :=
  { address := address, label := "L", offset := offset, selector := selector, site := site }

/-- E3, E4, E20 and E19 (R80). -/
theorem test_reference_values :
    (refAt .word 0x0201 2 .both).value 0x0300 = .ok 0x0302 ∧
    (refAt .word 0x0201 (-1) .both).value 0x0300 = .ok 0x02FF ∧
    (refAt .byte 0x0201 0 .lo).value 0x1234 = .ok 0x34 ∧
    (refAt .byte 0x0203 0 .hi).value 0x1234 = .ok 0x12 ∧
    (refAt .byte 0x0200 0 .both).value 0x1234 = .error (.outOfRange "L") := by
  decide

/-- The label texts of E1, E3, E4 and E20 (R79), and one with both suffixes. -/
theorem test_parseReference :
    parseReference ['L'] = (['L'], 0, .both) ∧ parseReference ['T', '+', '2'] = (['T'], 2, .both) ∧
    parseReference ['T', ':', 'L', 'O'] = (['T'], 0, .lo) ∧ parseReference ['T', ':', 'H', 'I'] = (['T'], 0, .hi) ∧
    parseReference ['T', '-', '1'] = (['T'], -1, .both) ∧
    parseReference ['t', '1', '-', '1', '2', ':', 'H', 'I'] = (['t', '1'], -12, .hi) := by
  decide

/-- E5 to E8 (R80, R81). -/
theorem test_relative_references :
    (refAt .relative 0x0210 0 .both).value 0x0206 = .ok (-11) ∧
    (refAt .relative 0x0201 0 .both).value 0x0281 = .ok 127 ∧
    (refAt .relative 0x0201 0 .both).value 0x0182 = .ok (-128) ∧
    (refAt .relative 0x0201 0 .both).value 0x0282 = .error (.outOfRange "L") := by
  decide

/-- E1, E2 (R79, R80): a placeholder, then the label's address. -/
theorem test_fixup_patches :
    ((Loader.start State.reset).origin 0x0200#16).reference .word "L" 0 .both =
      .ok { machine := writeWord 0x0200#16 0xFFFF#16 State.reset, cursor := 0x0202, labels := []
            pending := [refAt .word 0x0200 0 .both] } ∧
    ({ machine := State.reset, cursor := 0x0300, labels := [("L", 0x0300)]
       pending := [refAt .word 0x0201 0 .both] : Loader}).fixup =
      .ok { machine := writeWord 0x0201#16 0x0300#16 State.reset, cursor := 0x0300, labels := [("L", 0x0300)]
            pending := [] } :=
  ⟨rfl, rfl⟩

/-- E9 (R81): the error names the label, and the machine is not handed over. -/
theorem test_fixup_missing :
    let l : Loader := { machine := State.reset, cursor := 0, labels := [], pending := [refAt .word 0x0201 0 .both] }
    l.fixup = .error [.unresolved "L"] ∧ l.finish = .refused .fixupFailed :=
  ⟨rfl, rfl⟩

/-- E10 (R82). -/
theorem test_loadImage :
    loadImage [0x00#8, 0x80#8, 0x03#8, 0x00#8, 0xA9#8, 0x34#8, 0x00#8] none State.reset =
      .next (busWrite 0x8002#16 0x00#8 (busWrite 0x8001#16 0x34#8 (busWrite 0x8000#16 0xA9#8 State.reset))) := rfl

/-! ### A step of the instruction that `withFetchWord` places -/

theorem test_withFetchWord :
    view [] (step (State.reset.withFetchWord 16 0x34A9)) = some
      { pc := 0x0002#16, sp := 0xFF#8, a := 0x34#8, x := 0#8, y := 0#8, p := 0x20#8 } := by
  decide +kernel

/-! ### Witnesses: states and operands that meet the hypotheses of the statements, clause by clause -/

/-- The reset state's RAM is at every address. -/
theorem reset_ramAt (a : Word) : RamAt State.reset a := by
  have h : ownerIn [Device.ram 0 65536] a.toNat = some (Device.ram 0 65536) := by
    have := a.isLt
    simp [ownerIn, Device.covers, Device.ram]
    omega
  exact ⟨_, h, rfl, rfl, rfl⟩

/-- The reset state with another SP: still RAM everywhere. -/
theorem reset_sp_ramAt (v : Byte) (a : Word) : RamAt { State.reset with sp := v } a := reset_ramAt a

/-- A readable and writable peripheral over 0xD000, and a device that can neither be read nor written over 0xE000. -/
def withPeripheral : State :=
  { State.reset with
    bus := { Bus.initial with
      devices := [Device.peripheral 1 0xE000 0x10 false false, Device.peripheral 2 0xD000 0x10 true true,
        Device.ram 0x0000 0x8000] } }

theorem witness_DecodeReadsBackEncode :
    (Instr.bne (-128)).WellFormed ∧ (Instr.bne 127).WellFormed ∧ (Instr.ldaAbs 0xFFFF#16).WellFormed ∧
    decode (encode (.bne (-128)) ++ [0x55#8]) = .ok (.bne (-128), [0x55#8]) := by
  exact ⟨by decide, by decide, by decide, rfl⟩

theorem witness_EncodeReadsBackDecode :
    decode [0xD0#8, 0x80#8, 0x55#8] = .ok (.bne (-128), [0x55#8]) ∧ decode [0xFF#8] = .ok (.unmappedFF, []) ∧
    decode [0xAD#8, 0xFF#8, 0x00#8] = .ok (.ldaAbs 0x00FF#16, []) :=
  ⟨rfl, rfl, rfl⟩

/-- Both directions: the operand bytes just present, and one missing. -/
theorem witness_DecodeRefusesOnlyShortText :
    decode [0xAD#8, 0x34#8, 0x12#8] = .ok (.ldaAbs 0x1234#16, []) ∧ decode [0xAD#8, 0x34#8] = .error .operandMissing ∧
    decode [0xA9#8] = .error .operandMissing ∧ decode [0xEA#8] = .ok (.nop, []) :=
  ⟨rfl, rfl, rfl, rfl⟩

/-- Unowned at both ends of the gap, unreadable, a ROM at both ends, a peripheral at both ends. -/
theorem witness_BusReadRouting :
    twoDevices.bus.owner 0x8000#16 = none ∧ twoDevices.bus.owner 0xBFFF#16 = none ∧
    (∃ d, withPeripheral.bus.owner 0xE000#16 = some d ∧ d.canRead = false) ∧
    (∃ d, twoDevices.bus.owner 0xC000#16 = some d ∧ d.canRead = true ∧ d.isStorage = true) ∧
    (∃ d, twoDevices.bus.owner 0xFFFF#16 = some d ∧ d.canRead = true ∧ d.isStorage = true) ∧
    (∃ d, withPeripheral.bus.owner 0xD000#16 = some d ∧ d.canRead = true ∧ d.kind = .peripheral 2) ∧
    ∃ d, withPeripheral.bus.owner 0xD00F#16 = some d ∧ d.canRead = true ∧ d.kind = .peripheral 2 :=
  ⟨rfl, rfl, ⟨_, rfl, rfl⟩, ⟨_, rfl, rfl, rfl⟩, ⟨_, rfl, rfl, rfl⟩, ⟨_, rfl, rfl, rfl⟩, ⟨_, rfl, rfl, rfl⟩⟩

theorem witness_BusWriteRouting :
    BusOk twoDevices ∧ BusOk State.reset ∧ twoDevices.bus.owner 0x8000#16 = none ∧
    (∃ d, twoDevices.bus.owner 0xC000#16 = some d ∧ d.canWrite = false) ∧ RamAt twoDevices 0x7FFF#16 ∧
    RamAt State.reset 0xFFFF#16 ∧ (0x0000#16 : Word) ≠ 0xFFFF#16 ∧ BusOk withPeripheral ∧
    (∃ d, withPeripheral.bus.owner 0xD00F#16 = some d ∧ d.canWrite = true ∧ d.kind = .peripheral 2) ∧
    (∀ d, twoDevices.bus.owner 0xC000#16 = some d → d.canWrite = true → d.isStorage = true) :=
  ⟨by decide, by decide, rfl, ⟨_, rfl, rfl⟩, ⟨_, rfl, rfl, rfl, rfl⟩, reset_ramAt _, by decide, by decide,
    ⟨_, rfl, rfl, rfl⟩, fun d h => by cases h; decide⟩

theorem witness_OperandReadsLeaveNoTrace :
    NoPeripherals twoDevices ∧ ({ twoDevices with nmiPending := true, irqPending := true } : State).nmiPending = true := by
  exact ⟨by simp [NoPeripherals, twoDevices, Device.isStorage, Device.rom, Device.ram], rfl⟩

/-- SP on each side of both wraps. -/
theorem witness_PushAndPullDiscipline :
    ({ State.reset with sp := 0x01#8 } : State).sp ≠ 0x00#8 ∧ ({ State.reset with sp := 0x00#8 } : State).sp = 0x00#8 ∧
    ({ State.reset with sp := 0xFE#8 } : State).sp ≠ 0xFF#8 ∧ State.reset.sp = 0xFF#8 := by
  decide

theorem witness_UnmappedOpcodesAreCounted :
    (0x02#8, Instr.unmapped02) ∈ unmappedRows ∧ (0xFF#8, Instr.unmappedFF) ∈ unmappedRows ∧
    decode [0x02#8, 0x55#8] = .ok (.unmapped02, [0x55#8]) ∧ isUnmapped .unmapped02 = true ∧
    decode [0x00#8] = .ok (.brk, []) ∧ isUnmapped .brk = false :=
  ⟨by decide +kernel, by decide +kernel, rfl, rfl, rfl, rfl⟩

theorem witness_InterruptTakenWhen :
    ({ State.reset with servicing := true, nmiPending := true } : State).servicing = true ∧
    interruptToTake { State.reset with nmiPending := true } = some .nmi ∧
    interruptToTake { State.reset with irqPending := true } = some .irq := by
  decide

/-- A three-byte instruction whose last byte is at 0xFFFF, and a one-byte instruction at 0xFFFF. -/
theorem witness_StepRunsDecodedInstruction :
    (let s := start 0xFFFD#16 [(0xFFFD, 0xAD), (0xFFFE, 0x34), (0xFFFF, 0x12)]
     s.exit = none ∧ NotStopped s ∧ (takeInput s).1.fetchPermit = true ∧ interruptToTake (takeInput s).2 = none ∧
     decode [s.peek s.pc, s.peek (s.pc + 1#16), s.peek (s.pc + 2#16)] = .ok (.ldaAbs 0x1234#16, []) ∧
     ∀ k < (Instr.ldaAbs 0x1234#16).length, Plain s (s.pc + BitVec.ofNat 16 k)) ∧
    (let s := start 0xFFFF#16 [(0xFFFF, 0xEA)]
     s.exit = none ∧ NotStopped s ∧ (takeInput s).1.fetchPermit = true ∧ interruptToTake (takeInput s).2 = none ∧
     decode [s.peek s.pc, s.peek (s.pc + 1#16), s.peek (s.pc + 2#16)] = .ok (.nop, [0#8, 0#8]) ∧
     ∀ k < Instr.nop.length, Plain s (s.pc + BitVec.ofNat 16 k)) :=
  ⟨⟨rfl, .inl rfl, rfl, rfl, rfl, by decide +kernel⟩, ⟨rfl, .inl rfl, rfl, rfl, rfl, by decide +kernel⟩⟩

/-- Both interrupts, without a deadline and with one, the fetch denied. -/
theorem witness_StepEntersInterruptWithoutPermit :
    (let s := { atNops with inputs := [{ denied with assertNmi := true }] }
     s.exit = none ∧ NotStopped s ∧ interruptToTake (takeInput s).2 = some .nmi) ∧
    (let s := { atNops with inputs := [{ denied with requestIrq := true, stop := .deadline }] }
     s.exit = none ∧ NotStopped s ∧ interruptToTake (takeInput s).2 = some .irq) :=
  ⟨⟨rfl, .inl rfl, rfl⟩, ⟨rfl, .inr rfl, rfl⟩⟩

/-- One state for each of the seven clauses; the input taken makes a request of each kind, and is not the last. -/
theorem witness_StepIdlesOrStops :
    ({ atNops with inputs := [{ denied with assertNmi := true, requestIrq := true }, denied] } : State).inputs =
      { denied with assertNmi := true, requestIrq := true } :: [denied] ∧
    atNops.inputs = [] ∧
    (let s := { atNops with inputs := [denied] }
     s.exit = none ∧ (takeInput s).1.stop = .keepRunning ∧ interruptToTake (takeInput s).2 = none ∧
     (takeInput s).1.fetchPermit = false) ∧
    (let s := { atNops with inputs := [{ denied with stop := .deadline }] }
     s.exit = none ∧ (takeInput s).1.stop = .deadline ∧ interruptToTake (takeInput s).2 = none ∧
     (takeInput s).1.fetchPermit = false) ∧
    (let s := { atNops with inputs := [{ HostInput.quiet with stop := .cancellation }] }
     s.exit = none ∧ (takeInput s).1.stop = .cancellation) ∧
    (let s := { atNops with inputs := [{ denied with stop := .gateTimeout }] }
     s.exit = none ∧ (takeInput s).1.stop = .gateTimeout) ∧
    ({ atNops with exit := some .halted } : State).exit = some .halted :=
  ⟨rfl, rfl, ⟨rfl, rfl, rfl, rfl⟩, ⟨rfl, rfl, rfl, rfl⟩, ⟨rfl, rfl⟩, ⟨rfl, rfl⟩, rfl⟩

/-- An iteration that ends each way: halted (with the deadline elapsed too), by the deadline, and not at all. -/
theorem witness_LoopEndsWhenBreakBecomesSet :
    (let s := { State.reset with inputs := [{ HostInput.quiet with stop := .deadline }] }
     s.exit = none ∧ NotStopped s ∧ ∃ t, step s = .next t ∧ t.exit = some .halted) ∧
    (let s := { atNops with inputs := [{ HostInput.quiet with stop := .deadline }] }
     s.exit = none ∧ NotStopped s ∧ ∃ t, step s = .next t ∧ t.exit = some .deadline) ∧
    (atNops.exit = none ∧ NotStopped atNops ∧ ∃ t, step atNops = .next t ∧ t.exit = none) :=
  ⟨⟨rfl, .inr rfl, _, rfl, rfl⟩, ⟨rfl, .inr rfl, _, rfl, rfl⟩, ⟨rfl, .inl rfl, _, rfl, rfl⟩⟩

/-- For the invariants of `step`: a canonical state with a ROM whose step writes (JSR at 0x0200). -/
theorem witness_step_invariants :
    let s : State := { twoDevices with
      pc := 0x0200#16
      bus := { twoDevices.bus with devices := [Device.rom 0xC000 0x4000 [(0x0010, 0x42)],
        { Device.ram 0x0000 0x8000 with cells := [(0x0200, 0x20), (0x0202, 0xC0)] }] } }
    BusOk s ∧ (∃ t, step s = .next t ∧ t.sp = 0xFD#8) ∧ ∃ d ∈ s.bus.devices, d.canWrite = false :=
  ⟨by decide, ⟨_, rfl, rfl⟩, _, List.mem_cons_self, rfl⟩

theorem witness_ResetState : Plain twoDevices 0xFFFC#16 ∧ Plain twoDevices 0xFFFD#16 ∧
    Plain withPeripheral 0xFFFC#16 ∧ Plain withPeripheral 0xFFFD#16 := by
  decide

/-- In service, with both requests made by the input. -/
def inService (permit : Bool) : State :=
  { atNops with
    servicing := true
    inputs := [{ HostInput.quiet with fetchPermit := permit, assertNmi := true, requestIrq := true }] }

/-- An RTI ends servicing; an entry starts it; an instruction keeps it; with it set, both requests made and the fetch
permitted and denied, a step runs and the requests stay. -/
theorem witness_ServicingEndsOnlyByRti :
    (let s := { start 0x0200#16 [(0x0200, 0x40)] with sp := 0xFC#8, servicing := true }
     ∃ t, step s = .next t ∧ s.servicing = true ∧ t.servicing = false) ∧
    (∃ t, exec .nop { State.reset with servicing := true } = .next t ∧ t.servicing = true) ∧
    (∃ t, step { atNops with nmiPending := true } = .next t ∧ atNops.servicing = false ∧ t.servicing = true) ∧
    ((inService true).servicing = true ∧ (inService true).exit = none ∧ NotStopped (inService true) ∧
      (takeInput (inService true)).1.fetchPermit = true) ∧
    ((inService false).servicing = true ∧ (inService false).exit = none ∧ NotStopped (inService false) ∧
      (takeInput (inService false)).1.fetchPermit = false) ∧
    ∃ t, step { inService true with nmiPending := true, irqPending := true } = .next t ∧ t.pc = 0x0204#16 :=
  ⟨⟨_, rfl, rfl, rfl⟩, ⟨_, rfl, rfl⟩, ⟨_, rfl, rfl, rfl⟩, ⟨rfl, rfl, .inl rfl, rfl⟩, ⟨rfl, rfl, .inl rfl, rfl⟩, _, rfl,
    rfl⟩

/-- B set by BRK, by an overflow, and by PLP with no halt reason; an entry with SP on each side of 2; a step that sets B by an
entry, and one that sets it by an instruction. -/
theorem witness_BreakIsSetOnlyBy :
    (∃ t, exec .brk State.reset = .next t ∧ State.reset.flags.b = false ∧ t.flags.b = true) ∧
    (∃ t, exec .pha { State.reset with sp := 0x00#8 } = .next t ∧ t.flags.b = true) ∧
    (∃ t, exec .plp { start 0#16 [(0x01FF, 0x10)] with sp := 0xFE#8 } = .next t ∧ t.flags.b = true ∧
      t.haltReason = .none) ∧
    (interruptEntry .nmi { State.reset with sp := 0x02#8 }).flags.b = true ∧
    (interruptEntry .nmi { State.reset with sp := 0x03#8 }).flags.b = false ∧
    (∃ t, step { atNops with nmiPending := true, sp := 0x02#8 } = .next t ∧ atNops.flags.b = false ∧ t.flags.b = true) ∧
    ∃ t, step State.reset = .next t ∧ interruptToTake (takeInput State.reset).2 = none ∧ t.flags.b = true :=
  ⟨⟨_, rfl, rfl, rfl⟩, ⟨_, rfl, rfl⟩, ⟨_, rfl, rfl, rfl⟩, rfl, rfl, ⟨_, rfl, rfl, rfl⟩, _, rfl, rfl, rfl⟩

/-- A second cause after a first: BRK, an overflowing entry and an overflowing step, with StackUnderflow recorded. -/
theorem witness_FirstHaltCauseStays :
    (∃ t, exec .brk { State.reset with haltReason := .stackUnderflow } = .next t ∧
      ({ State.reset with haltReason := .stackUnderflow } : State).haltReason ≠ .none) ∧
    (interruptEntry .nmi { State.reset with haltReason := .stackUnderflow, sp := 0x00#8 }).flags.b = true ∧
    ∃ t, step { State.reset with haltReason := .stackUnderflow } = .next t :=
  ⟨⟨_, rfl, by decide⟩, rfl, _, rfl⟩

theorem witness_OnlyUnmappedOpcodesCount :
    (∃ t, exec .unmapped02 State.reset = .next t ∧ t.invalidOpcodeCount = 1) ∧
    ∃ t, exec .nop State.reset = .next t ∧ t.invalidOpcodeCount = 0 :=
  ⟨⟨_, rfl, rfl⟩, _, rfl, rfl⟩

/-- ADC and SBC, and a push, with D set and clear. -/
theorem witness_DecimalFlagIsInert :
    Instr.adcImm 0x09#8 ∉ [Instr.php, .plp, .rti, .cld, .sed] ∧ (∃ t, exec (.adcImm 0x09#8) State.reset = .next t) ∧
    Instr.pha ∉ [Instr.php, .plp, .rti, .cld, .sed] ∧ ∃ t, exec .pha State.reset = .next t :=
  ⟨by decide, ⟨_, rfl⟩, by decide, _, rfl⟩

/-- As many bytes as SP allows, at the smallest SP and at the reset value. -/
theorem witness_StackIsLastInFirstOut :
    BusOk { State.reset with sp := 0x02#8 } ∧ (∀ b : Byte, RamAt { State.reset with sp := 0x02#8 } (stackAddr b)) ∧
    [0x01#8, 0x02#8].length ≤ (0x02#8 : Byte).toNat ∧ [0x01#8, 0x02#8, 0x03#8].length ≤ State.reset.sp.toNat :=
  ⟨by decide, fun b => reset_sp_ramAt _ (stackAddr b), by decide, by decide⟩

theorem witness_JsrThenRtsReturns :
    BusOk { State.reset with sp := 0x02#8 } ∧ (∀ b : Byte, RamAt { State.reset with sp := 0x02#8 } (stackAddr b)) ∧
    2 ≤ ({ State.reset with sp := 0x02#8 } : State).sp.toNat :=
  ⟨by decide, fun b => reset_sp_ramAt _ (stackAddr b), by decide⟩

theorem witness_RtiUndoesInterruptEntry :
    BusOk { State.reset with sp := 0x03#8 } ∧ (∀ b : Byte, RamAt { State.reset with sp := 0x03#8 } (stackAddr b)) ∧
    3 ≤ ({ State.reset with sp := 0x03#8 } : State).sp.toNat :=
  ⟨by decide, fun b => reset_sp_ramAt _ (stackAddr b), by decide⟩

theorem witness_AdcThenSbcRoundTrip :
    ∃ u, exec (.adcImm 0x50#8) { State.reset with a := 0x50#8 } = .next u ∧ u.a = 0xA0#8 := ⟨_, rfl, rfl⟩

/-- A reading instruction in its boundary forms, with nothing but storage installed. -/
theorem witness_FrameOfReadingInstructions :
    NoPeripherals twoDevices ∧ (∃ t, exec (.ldaAbs 0xC010#16) twoDevices = .next t ∧ t.a = 0x42#8) ∧
    (∃ t, exec (.sbcZp 0xFF#8) twoDevices = .next t) ∧ ∃ t, exec (.bitZp 0x00#8) twoDevices = .next t :=
  ⟨by simp [NoPeripherals, twoDevices, Device.isStorage, Device.rom, Device.ram], ⟨_, rfl, rfl⟩, ⟨_, rfl⟩, _, rfl⟩

/-- A storing instruction, with an address outside the stored byte. -/
theorem witness_FrameOfStoringInstructions :
    (∃ t, exec (.staAbs 0x7FFF#16) { twoDevices with a := 0x99#8 } = .next t ∧ t.peek 0x7FFF#16 = 0x99#8) ∧
    (0x7FFE#16 : Word) ∉ [(effAddr (.abs 0x7FFF#16) twoDevices).1] ∧
    (∃ t, exec (.incZp 0xFF#8) twoDevices = .next t ∧ t.peek 0x00FF#16 = 0x01#8) ∧
    ∃ t, exec (.rorZpx 0x0F#8) twoDevices = .next t :=
  ⟨⟨_, rfl, rfl⟩, by decide, ⟨_, rfl, rfl⟩, _, rfl⟩

theorem witness_FrameOfRegisterInstructions :
    (∃ t, exec .tax { State.reset with a := 0x80#8 } = .next t ∧ t.x = 0x80#8) ∧
    (∃ t, exec (.bne (-128)) State.reset = .next t ∧ t.pc = 0xFF80#16) ∧
    ∃ t, exec .rorAcc { State.reset with a := 0x01#8 } = .next t ∧ t.flags.c = true :=
  ⟨⟨_, rfl, rfl⟩, ⟨_, rfl, rfl⟩, _, rfl, rfl⟩

/-- SP just enough for each push and each pull. -/
theorem witness_FrameOfStackAndTransferOfControl :
    (∃ t, exec .pha { State.reset with sp := 0x01#8 } = .next t) ∧ 1 ≤ (0x01#8 : Byte).toNat ∧
    (∃ t, exec (.jsr 0x1234#16) { State.reset with sp := 0x02#8 } = .next t) ∧ 2 ≤ (0x02#8 : Byte).toNat ∧
    (∃ t, exec .pla { State.reset with sp := 0xFE#8 } = .next t) ∧ (0xFE#8 : Byte).toNat + 1 ≤ 255 ∧
    (∃ t, exec .rts { State.reset with sp := 0xFD#8 } = .next t) ∧ (0xFD#8 : Byte).toNat + 2 ≤ 255 ∧
    (∃ t, exec .rti { State.reset with sp := 0xFC#8 } = .next t) ∧ (0xFC#8 : Byte).toNat + 3 ≤ 255 ∧
    (∃ t, exec (.jmpInd 0xFFFF#16) State.reset = .next t) ∧ ∃ t, exec .brk State.reset = .next t :=
  ⟨⟨_, rfl⟩, by decide, ⟨_, rfl⟩, by decide, ⟨_, rfl⟩, by decide, ⟨_, rfl⟩, by decide, ⟨_, rfl⟩, by decide, ⟨_, rfl⟩,
    _, rfl⟩

/-- SP just enough, an address just outside the pushed bytes, and the other kind's request pending with no peripheral. -/
theorem witness_FrameOfInterruptEntry :
    ({ twoDevices with irqPending := true } : State).irqPending = true ∧
    ({ twoDevices with nmiPending := true } : State).nmiPending = true ∧ NoPeripherals twoDevices ∧
    3 ≤ ({ State.reset with sp := 0x03#8 } : State).sp.toNat ∧
    (0x0104#16 : Word) ∉ [stackAddr 0x03#8, stackAddr (0x03#8 - 1#8), stackAddr (0x03#8 - 2#8)] := by
  exact ⟨rfl, rfl, by simp [NoPeripherals, twoDevices, Device.isStorage, Device.rom, Device.ram], by decide⟩

/-- A range that ends at the last slot, and one that ends just past it. -/
theorem witness_InstallOverridesEarlierOwners :
    (Device.ram 0xFFFF 1).base + (Device.ram 0xFFFF 1).size ≤ 65536 ∧ (Device.ram 0xFFFF 1).wf = true ∧
    BusOk State.reset ∧ 65536 < (Device.ram 0xFFFF 2).base + (Device.ram 0xFFFF 2).size := by
  decide

/-- The longest displacements both ways; a loader with that one reference; RAM at the reference; the PC past it. -/
theorem witness_RelativeFixupMeetsTheBranch :
    (refAt .relative 0x0201 0 .both).value 0x0281 = .ok 127 ∧ (refAt .relative 0x0201 0 .both).value 0x0182 = .ok (-128) ∧
    (refAt .relative 0x0201 0 .both).site = .relative ∧ (refAt .relative 0x0201 0 .both).selector = .both ∧
    ({ State.reset with pc := 0x0202#16 } : State).pc = BitVec.ofNat 16 ((refAt .relative 0x0201 0 .both).address + 1) ∧
    (let l : Loader :=
      { machine := State.reset, cursor := 0x0202, labels := [("L", 0x0182)], pending := [refAt .relative 0x0201 0 .both] }
     l.pending = [refAt .relative 0x0201 0 .both] ∧ findLabel l.labels "L" = some 0x0182) ∧
    BusOk State.reset ∧ RamAt State.reset (BitVec.ofNat 16 (refAt .relative 0x0201 0 .both).address) ∧
    (0x0202#16 : Word) ≠ BitVec.ofNat 16 (refAt .relative 0x0201 0 .both).address :=
  ⟨by decide, by decide, by decide, by decide, by decide, ⟨rfl, by decide⟩, by decide, reset_ramAt _, by decide⟩

/-- An image that ends at 0xFFFF, and one byte more. -/
theorem witness_BinaryImageLandsAtItsAddress :
    BusOk State.reset ∧ (∀ a, RamAt State.reset a) ∧ [0xEA#8, 0x00#8].length < 65536 ∧
    (0xFFFE#16 : Word).toNat + [0xEA#8, 0x00#8].length ≤ 65536 ∧
    65536 < (0xFFFE#16 : Word).toNat + [0xEA#8, 0xEA#8, 0x00#8].length :=
  ⟨by decide, reset_ramAt, by decide, by decide, by decide⟩

/-- The last value in range and the first out of it, of each site; a loader whose one reference is out of range. -/
theorem witness_FixupValues :
    (refAt .word 0 0 .both).value 65535 = .ok 65535 ∧ (refAt .word 0 1 .both).value 65535 = .error (.outOfRange "L") ∧
    (refAt .byte 0 0 .both).value 255 = .ok 255 ∧ (refAt .byte 0 (-1) .both).value 0 = .error (.outOfRange "L") ∧
    (refAt .byte 0 (-1) .hi).value 0 = .ok 255 ∧ (refAt .relative 0 0 .both).value 128 = .ok 127 ∧
    (refAt .relative 0 0 .lo).value 129 = .error (.outOfRange "L") ∧
    (let l : Loader :=
      { machine := State.reset, cursor := 0, labels := [("L", 129)], pending := [refAt .relative 0 0 .both] }
     refAt .relative 0 0 .both ∈ l.pending ∧ findLabel l.labels "L" = some 129) :=
  ⟨by decide, by decide, by decide, by decide, by decide, by decide, by decide, by decide, by decide⟩

/-- A store of 0x99 at 0xD00F is handed to the peripheral at 0xD000 as offset 0x0F (R44, spec/95_test_vectors.md M12). -/
def storeToPeripheral : State :=
  { withPeripheral with
    pc := 0x0200#16
    a := 0x99#8
    bus := { withPeripheral.bus with devices := [Device.peripheral 2 0xD000 0x10 true true,
      { Device.ram 0x0000 0x8000 with cells := [(0x0200, 0x8D), (0x0201, 0x0F), (0x0202, 0xD0)] }] } }

theorem witness_StepKeepsTrafficOk :
    TrafficOk { storeToPeripheral with traffic := [{ device := 2, offset := 0x0F, action := .read }] } ∧
    ∃ t, step storeToPeripheral = .next t ∧ t.traffic = [{ device := 2, offset := 0x0F, action := .write 0x99#8 }] := by
  refine ⟨fun c h => ?_, _, rfl, rfl⟩
  cases List.mem_singleton.1 h
  exact ⟨_, List.mem_cons_self, rfl, by decide, rfl⟩

theorem witness_CallsOfPeripheralsOnlyGrow :
    ∃ t, step { storeToPeripheral with traffic := [{ device := 2, offset := 0, action := .read }] } = .next t ∧
      t.traffic.length = 2 := ⟨_, rfl, rfl⟩

end Sys2Proof.Tests
end

section
/-! SUPPORT. One law per case of a bus access: which device takes it, and what it leaves alone (spec/20_memory.md R43 to
R45). -/

namespace Sys2Proof.Machine

/-- The owner of a slot takes the access at an offset of its own (spec/20_memory.md R41, R59). -/
theorem Bus.owner_range {b : Bus} {a : Word} {d : Device} (h : b.owner a = some d) :
    d.base ≤ a.toNat ∧ a.toNat - d.base < d.size := by
  have hc := ownerIn_covers h
  simp only [Device.covers, Bool.and_eq_true, decide_eq_true_eq] at hc
  exact ⟨hc.1, ownerIn_offset_lt h⟩

theorem Device.isStorage_of_peripheral {d : Device} {n : Nat} (h : d.kind = .peripheral n) : d.isStorage = false := by
  simp [Device.isStorage, h]

/-- What a write makes of a peripheral is in its calls, not in stored bytes (log 4). -/
theorem Device.store_of_peripheral {d : Device} {n : Nat} (off : Nat) (v : Byte) (h : d.kind = .peripheral n) :
    d.store off v = d := by
  simp [Device.store, Device.isStorage_of_peripheral h]

/-- A write changes no device when it changes nothing in the slot's owner. -/
theorem storeIn_of_owner_keeps {ds : List Device} {a : Nat} {v : Byte}
    (h : ∀ d, ownerIn ds a = some d → d.store (a - d.base) v = d) : storeIn ds a v = ds := by
  induction ds with
  | nil => rfl
  | cons d rest ih =>
    simp only [storeIn]
    split
    · next hc => rw [h d (by simp [ownerIn, hc])]
    · next hc => rw [ih fun e he => h e (by simpa [ownerIn, hc] using he)]

theorem Bus.devices_write_unowned {b : Bus} {a : Word} (v : Byte) (ho : b.owner a = none) :
    (b.write a v).devices = b.devices :=
  storeIn_of_owner_keeps fun _ he => by cases ho.symm.trans he

theorem Bus.devices_write_of_store_eq {b : Bus} {a : Word} {d : Device} {v : Byte} (ho : b.owner a = some d)
    (h : d.store (a.toNat - d.base) v = d) : (b.write a v).devices = b.devices :=
  storeIn_of_owner_keeps fun _ he => by cases ho.symm.trans he; exact h

@[simp] theorem Bus.wmLow_write (b : Bus) (a : Word) (v : Byte) :
    (b.write a v).wmLow.toNat = min b.wmLow.toNat a.toNat := by
  simp only [Bus.write]
  split <;> omega

@[simp] theorem Bus.wmHigh_write (b : Bus) (a : Word) (v : Byte) :
    (b.write a v).wmHigh.toNat = max b.wmHigh.toNat a.toNat := by
  simp only [Bus.write]
  split <;> omega

theorem Bus.plainAt_of_storage {b : Bus} {a : Word} {d : Device} (ho : b.owner a = some d) (hs : d.isStorage = true) :
    b.plainAt a = true := by
  simp [Bus.plainAt, ho, hs]

section
variable {s : State} {a : Word} {d : Device}

theorem busRead_unowned (ho : s.bus.owner a = none) : busRead a s = (0#8, s) := by
  simp [busRead, ho, Config.silentByte]

theorem busRead_unreadable (ho : s.bus.owner a = some d) (hr : d.canRead = false) : busRead a s = (0#8, s) := by
  simp [busRead, ho, hr, Config.silentByte]

theorem busRead_readable (ho : s.bus.owner a = some d) (hr : d.canRead = true) :
    busRead a s = d.read (a.toNat - d.base) s := by
  simp [busRead, ho, hr]

theorem deviceRead_peripheral {n : Nat} (off : Nat) (hk : d.kind = .peripheral n) :
    d.read off s = (Config.peripheralByte { device := n, offset := off, action := .read } s.traffic,
      touchPeripheral { device := n, offset := off, action := .read } s) := by
  simp [Device.read, hk]

theorem busWrite_peripheral {n : Nat} (v : Byte) (ho : s.bus.owner a = some d) (hw : d.canWrite = true)
    (hk : d.kind = .peripheral n) :
    busWrite a v s =
      touchPeripheral { device := n, offset := a.toNat - d.base, action := .write v } (s.setBus (s.bus.write a v)) := by
  simp [busWrite, ho, hw, Device.handed, hk]

/-- A write that reaches no peripheral changes nothing but the bus. -/
theorem busWrite_of_writable_storage (v : Byte)
    (h : ∀ d, s.bus.owner a = some d → d.canWrite = true → d.isStorage = true) :
    busWrite a v s = s.setBus (s.bus.write a v) := by
  rcases busWrite_state s a v with hb | ⟨d, n, ho, hk, hw, _⟩
  · exact hb
  · have hs := h d ho hw
    simp [Device.isStorage_of_peripheral hk] at hs

/-- A write reaches its own address only. -/
theorem peek_busWrite_ne {a' : Word} (v : Byte) (h : a' ≠ a) : (busWrite a v s).peek a' = s.peek a' := by
  simp only [State.peek, busWrite_bus]
  exact Bus.peek_write_ne s.bus v h

/-- A RAM, or a ROM in burn mode, answers the byte last written (spec/20_memory.md R58). -/
theorem busRead_busWrite_self (v : Byte) (hb : Safety.BusOk s) (h : Safety.RamAt s a) :
    busRead a (busWrite a v s) = (v, busWrite a v s) := by
  obtain ⟨d, ho, hr, hw, hs⟩ := h
  have hp : (busWrite a v s).plainAt a = true := by
    simp [State.plainAt, Bus.plainAt_of_storage ho hs]
  have hv : (busWrite a v s).peek a = v := by
    simp only [State.peek, busWrite_bus]
    exact Bus.peek_write_self v hb ho hr hw hs
  rw [busRead_plain hp, hv]

end

end Sys2Proof.Machine
end

section
/-! The statements of spec/00_scope.md: where a bus access goes. -/

open Sys2Proof Sys2Proof.Machine Sys2Proof.Safety Sys2Proof.Claims

namespace Sys2Proof.Proofs

/-- The claims' form of a peripheral's call is the model's. -/
theorem touchPeripheral_eq_called (c : DeviceCall) (s : State) : touchPeripheral c s = called c s := rfl

/-- Settles O8, clause by clause from what the bus's own write does and from who owns the slot. -/
theorem busWriteRouting : Obligations.BusWriteRouting := by
  intro s a v hb
  simp only [busWrite_bus]
  refine ⟨Bus.wmLow_write .., Bus.wmHigh_write .., Bus.devices_write_unowned v, fun d ho hw => ?readOnly,
    busRead_busWrite_self v hb, fun _ => peek_busWrite_ne v, fun d n ho hw hk => ?peripheral,
    busWrite_of_writable_storage v⟩
  case readOnly => exact Bus.devices_write_of_store_eq ho (Device.store_of_readOnly _ v hw)
  case peripheral =>
    have hcall := (busWrite_peripheral v ho hw hk).trans (touchPeripheral_eq_called ..)
    exact ⟨(Bus.owner_range ho).2, Bus.devices_write_of_store_eq ho (Device.store_of_peripheral _ v hk), hcall⟩

/-- Settles O7, by who owns the slot and whether it can be read. -/
theorem busReadRouting : Obligations.BusReadRouting := by
  intro s a
  refine ⟨busRead_unowned, fun d => busRead_unreadable, fun d ho hr hs => ?storage, fun d n ho hr hk => ?peripheral,
    busRead_bus s a⟩
  case storage =>
    obtain ⟨hbase, hoff⟩ := Bus.owner_range ho
    exact ⟨hbase, hoff, (busRead_readable ho hr).trans (deviceRead_storage s _ hs)⟩
  case peripheral =>
    obtain ⟨hbase, hoff⟩ := Bus.owner_range ho
    exact ⟨hbase, hoff, (busRead_readable ho hr).trans (deviceRead_peripheral _ hk)⟩

end Sys2Proof.Proofs
end

section
/-! SUPPORT. The operations behind the 256 arms of `exec`: one case split over the instructions, for every statement
about all of them (spec/40_execution_loop.md R95). -/

namespace Sys2Proof.Machine

open Sys2Proof.Claims

/-- The operation that a mapped instruction performs. An operation with several addressing modes stands once, at the
operand of the mode; the others name their only instruction. -/
inductive Operation : Instr → (State → State) → Prop
  | lda {i} (o : Operand) : Operation i (lda o)
  | ldx {i} (o : Operand) : Operation i (ldx o)
  | ldy {i} (o : Operand) : Operation i (ldy o)
  | sta {i} (m : MemOperand) : Operation i (sta m)
  | stx {i} (m : MemOperand) : Operation i (stx m)
  | sty {i} (m : MemOperand) : Operation i (sty m)
  | adc {i} (o : Operand) : Operation i (adc o)
  | sbc {i} (o : Operand) : Operation i (sbc o)
  | cmpA {i} (o : Operand) : Operation i (cmpA o)
  | cpx {i} (o : Operand) : Operation i (cpx o)
  | cpy {i} (o : Operand) : Operation i (cpy o)
  | andA {i} (o : Operand) : Operation i (andA o)
  | oraA {i} (o : Operand) : Operation i (oraA o)
  | eorA {i} (o : Operand) : Operation i (eorA o)
  | bitTest {i} (m : MemOperand) : Operation i (bitTest m)
  | incMem {i} (m : MemOperand) : Operation i (incMem m)
  | decMem {i} (m : MemOperand) : Operation i (decMem m)
  | shift {i} (k : ShiftKind) (p : Place) : Operation i (shift k p)
  | jmp {i} (m : MemOperand) : Operation i (jmp m)
  | tax : Operation .tax tax
  | tay : Operation .tay tay
  | txa : Operation .txa txa
  | tya : Operation .tya tya
  | tsx : Operation .tsx tsx
  | txs : Operation .txs txs
  | inx : Operation .inx inx
  | iny : Operation .iny iny
  | dex : Operation .dex dex
  | dey : Operation .dey dey
  | bpl (off : Int) : Operation (.bpl off) (bpl off)
  | bmi (off : Int) : Operation (.bmi off) (bmi off)
  | bvc (off : Int) : Operation (.bvc off) (bvc off)
  | bvs (off : Int) : Operation (.bvs off) (bvs off)
  | bcc (off : Int) : Operation (.bcc off) (bcc off)
  | bcs (off : Int) : Operation (.bcs off) (bcs off)
  | bne (off : Int) : Operation (.bne off) (branchNe off)
  | beq (off : Int) : Operation (.beq off) (beq off)
  | jsr (w : Word) : Operation (.jsr w) (jsr w)
  | rts : Operation .rts rts
  | pha : Operation .pha pha
  | pla : Operation .pla pla
  | php : Operation .php php
  | plp : Operation .plp plp
  | clc : Operation .clc clc
  | sec : Operation .sec sec
  | cli : Operation .cli cli
  | sei : Operation .sei sei
  | cld : Operation .cld cld
  | sed : Operation .sed sed
  | clv : Operation .clv clv
  | nop : Operation .nop nop
  | brk : Operation .brk brk
  | rti : Operation .rti rti

/-- What `exec` makes of an instruction: an unmapped opcode is counted (R230), any other performs its operation. -/
inductive ExecCase (i : Instr) : Prop
  | unmapped (hu : isUnmapped i = true) (he : ∀ s, exec i s = .next (countInvalid s))
  | mapped (hu : isUnmapped i = false) (f : State → State) (hf : Operation i f) (he : ∀ s, exec i s = .next (f s))

theorem exec_cases (i : Instr) : ExecCase i := by
  cases i with
  | unmapped02 | unmapped03 | unmapped04 | unmapped07 | unmapped0B | unmapped0C | unmapped0F | unmapped12
  | unmapped13 | unmapped14 | unmapped17 | unmapped1A | unmapped1B | unmapped1C | unmapped1F | unmapped22
  | unmapped23 | unmapped27 | unmapped2B | unmapped2F | unmapped32 | unmapped33 | unmapped34 | unmapped37
  | unmapped3A | unmapped3B | unmapped3C | unmapped3F | unmapped42 | unmapped43 | unmapped44 | unmapped47
  | unmapped4B | unmapped4F | unmapped52 | unmapped53 | unmapped54 | unmapped57 | unmapped5A | unmapped5B
  | unmapped5C | unmapped5F | unmapped62 | unmapped63 | unmapped64 | unmapped67 | unmapped6B | unmapped6F
  | unmapped72 | unmapped73 | unmapped74 | unmapped77 | unmapped7A | unmapped7B | unmapped7C | unmapped7F
  | unmapped80 | unmapped82 | unmapped83 | unmapped87 | unmapped89 | unmapped8B | unmapped8F | unmapped92
  | unmapped93 | unmapped97 | unmapped9B | unmapped9C | unmapped9E | unmapped9F | unmappedA3 | unmappedA7
  | unmappedAB | unmappedAF | unmappedB2 | unmappedB3 | unmappedB7 | unmappedBB | unmappedBF | unmappedC2
  | unmappedC3 | unmappedC7 | unmappedCB | unmappedCF | unmappedD2 | unmappedD3 | unmappedD4 | unmappedD7
  | unmappedDA | unmappedDB | unmappedDC | unmappedDF | unmappedE2 | unmappedE3 | unmappedE7 | unmappedEB
  | unmappedEF | unmappedF2 | unmappedF3 | unmappedF4 | unmappedF7 | unmappedFA | unmappedFB | unmappedFC
  | unmappedFF => exact .unmapped rfl fun _ => rfl
  | _ => exact .mapped rfl _ (by with_reducible constructor) fun _ => rfl

/-- No instruction faults or is refused (R100, R242). -/
theorem exec_completes (i : Instr) (s : State) : ∃ t, exec i s = .next t := by
  cases exec_cases i with
  | unmapped _ he => exact ⟨_, he s⟩
  | mapped _ _ _ he => exact ⟨_, he s⟩

end Sys2Proof.Machine
end

section
/-! SUPPORT. What an instruction, an interrupt entry and a step can do to the fields outside the register file, said
once: `servicing`, the halt reason, the counter, the pending flags, the loop's status, the calls of the peripherals. -/

namespace Sys2Proof.Machine

open Sys2Proof.Claims Sys2Proof.Safety

/-- The change from `s` to `t` is in PC, SP, A, X, Y and the flags (spec/10_state.md R10 to R13). -/
def InRegisters (s t : State) : Prop :=
  t = { s with pc := t.pc, sp := t.sp, a := t.a, x := t.x, y := t.y, flags := t.flags }

/-- From `s` the machine comes to a state by register and flag writes, bus accesses and halts. -/
inductive Ran (s : State) : State → Prop
  | refl : Ran s s
  | registers {t u : State} (h : Ran s t) (hu : InRegisters t u) : Ran s u
  | read {t : State} (a : Word) (h : Ran s t) : Ran s (busRead a t).2
  | write {t : State} (a : Word) (v : Byte) (h : Ran s t) : Ran s (busWrite a v t)
  | halt {t : State} (r : HaltReason) (h : Ran s t) : Ran s (halt r t)

section
variable {s t : State} (h : Ran s t)
include h

theorem Ran.readWord (a : Word) : Ran s (readWord a t).2 := .read _ (.read _ h)

theorem Ran.effAddr (m : MemOperand) : Ran s (effAddr m t).2 := by
  cases m with
  | zp | zpx | zpy | abs | absx | absy => exact h
  | ind | indx | indy => exact h.readWord _

theorem Ran.readOperand (o : Operand) : Ran s (readOperand o t).2 := by
  cases o with
  | imm => exact h
  | mem m => exact .read _ (h.effAddr m)

theorem Ran.writeOperand (m : MemOperand) (v : Byte) : Ran s (writeOperand m v t) := .write _ v (h.effAddr m)

theorem Ran.modifyOperand (p : Place) (r : Byte → Flags → Byte) (g : Byte → Flags → Flags) :
    Ran s (modifyOperand p r g t) := by
  cases p with
  | acc => exact .registers h rfl
  | mem m => exact .registers (.write _ _ (.read _ (h.effAddr m))) rfl

theorem Ran.push (v : Byte) : Ran s (push v t) := by
  have hw : Ran s (busWrite (stackAddr t.sp) v t) := .write _ v h
  unfold Machine.push
  dsimp only
  split
  · exact .halt _ (.registers hw rfl)
  · exact .registers hw rfl

theorem Ran.pullStep : Ran s (pullStep t) := by
  unfold Machine.pullStep
  split
  · exact .halt _ (.registers h rfl)
  · exact .registers h rfl

theorem Ran.pull : Ran s (pull t).2 := .read _ h.pullStep

theorem Ran.pushWord (w : Word) : Ran s (pushWord w t) := (h.push _).push _

theorem Ran.pullWord : Ran s (pullWord t).2 := h.pull.pull

theorem Ran.pullFlags : Ran s (pullFlags t) := .registers h.pull rfl

theorem Ran.branch (c : Bool) (off : Int) : Ran s (branch c off t) := by
  unfold Machine.branch
  split
  · exact .registers h rfl
  · exact h

theorem Ran.pushContext : Ran s (pushContext t) := (h.pushWord _).push _

theorem Ran.maskAtEntry (k : InterruptKind) : Ran s (maskAtEntry k t) := by
  cases k with
  | nmi => exact h
  | irq => exact .registers h rfl

end

/-- RTI is a run, then `servicing` is cleared (R229, R250). -/
theorem returnFromInterrupt_ran (s : State) : ∃ u, Ran s u ∧ returnFromInterrupt s = u.setServicing false := by
  have hw : Ran s (pullWord (pullFlags s)).2 := Ran.refl.pullFlags.pullWord
  unfold returnFromInterrupt
  generalize pullWord (pullFlags s) = w at hw ⊢
  refine ⟨_, .registers hw ?_, rfl⟩
  exact rfl

/-- An operation is such a run; RTI clears `servicing` after one (R250). -/
theorem Operation.ran {i : Instr} {f : State → State} (hf : Operation i f) (s : State) :
    Ran s (f s) ∨ i = .rti ∧ ∃ u, Ran s u ∧ f s = u.setServicing false := by
  cases hf with
  | lda o | ldx o | ldy o | andA o | oraA o | eorA o | adc o | sbc o | cmpA o | cpx o | cpy o =>
    exact .inl (.registers (Ran.refl.readOperand o) rfl)
  | bitTest m => exact .inl (.registers (Ran.refl.readOperand (.mem m)) rfl)
  | sta m | stx m | sty m => exact .inl (Ran.refl.writeOperand m _)
  | incMem m | decMem m => exact .inl (Ran.refl.modifyOperand (.mem m) _ _)
  | shift k p => exact .inl (Ran.refl.modifyOperand p _ _)
  | tax | tay | txa | tya | tsx | txs | inx | iny | dex | dey | clc | sec | cli | sei | cld | sed | clv =>
    exact .inl (.registers .refl rfl)
  | nop => exact .inl .refl
  | brk => exact .inl (.halt _ .refl)
  | bpl off | bmi off | bvc off | bvs off | bcc off | bcs off | bne off | beq off => exact .inl (Ran.refl.branch _ off)
  | jmp m => exact .inl (.registers (Ran.refl.effAddr m) rfl)
  | jsr w => exact .inl (.registers (Ran.refl.pushWord _) rfl)
  | rts => exact .inl (.registers Ran.refl.pullWord rfl)
  | pha | php => exact .inl (Ran.refl.push _)
  | pla => exact .inl (.registers Ran.refl.pull rfl)
  | plp => exact .inl Ran.refl.pullFlags
  | rti => exact .inr ⟨rfl, returnFromInterrupt_ran s⟩

/-- What an instruction can do outside the register file and the bus: an unmapped one is counted, RTI clears `servicing`
after a run, every other one is a run. -/
inductive RanCase (i : Instr) (s t : State) : Prop
  | counted (hu : isUnmapped i = true) (ht : t = countInvalid s)
  | returned (hi : i = .rti) (hu : isUnmapped i = false) (u : State) (hr : Ran s u) (ht : t = u.setServicing false)
  | ran (hu : isUnmapped i = false) (hr : Ran s t)

theorem exec_ran {i : Instr} {s t : State} (h : exec i s = .next t) : RanCase i s t := by
  cases exec_cases i with
  | unmapped hu he => cases (he s).symm.trans h; exact .counted hu rfl
  | mapped hu f hf he =>
    cases (he s).symm.trans h
    rcases hf.ran s with hr | ⟨hi, u, hr, ht⟩
    · exact .ran hu hr
    · exact .returned hi hu u hr ht

/-- An interrupt entry is a run, then `servicing` is set and the entry's pending flag cleared (R246, R247). -/
theorem interruptEntry_ran (k : InterruptKind) (s : State) :
    ∃ u, Ran s u ∧ interruptEntry k s = clearPending k (u.setServicing true) := by
  have hv : Ran s (readWord (vectorOf k) (maskAtEntry k (pushContext s))).2 :=
    (Ran.refl.pushContext.maskAtEntry k).readWord (vectorOf k)
  unfold interruptEntry
  generalize readWord (vectorOf k) (maskAtEntry k (pushContext s)) = v at hv ⊢
  refine ⟨_, .registers hv ?_, rfl⟩
  exact rfl

/-! ### What a run keeps -/

/-- A field that no register write, device access or halt touches is kept by a run. -/
theorem Ran.keeps {α : Type} (f : State → α) (hg : ∀ s t, InRegisters s t → f t = f s)
    (hr : ∀ a s, f (busRead a s).2 = f s) (hw : ∀ a v s, f (busWrite a v s) = f s)
    (hh : ∀ r s, f (Machine.halt r s) = f s)
    {s t : State} (h : Ran s t) : f t = f s := by
  induction h with
  | refl => rfl
  | registers _ hu ih => exact (hg _ _ hu).trans ih
  | read a _ ih => exact (hr a _).trans ih
  | write a v _ ih => exact (hw a v _).trans ih
  | halt r _ ih => exact (hh r _).trans ih

section
variable {s t : State} (h : Ran s t)
include h

theorem Ran.servicing : t.servicing = s.servicing :=
  h.keeps State.servicing (fun _ _ hu => by rw [hu]) (by simp) (by simp) (by simp)

theorem Ran.invalidOpcodeCount : t.invalidOpcodeCount = s.invalidOpcodeCount :=
  h.keeps State.invalidOpcodeCount (fun _ _ hu => by rw [hu]) (by simp) (by simp) (by simp)

theorem Ran.exit : t.exit = s.exit :=
  h.keeps State.exit (fun _ _ hu => by rw [hu]) (by simp) (by simp) (by simp)

theorem Ran.inputs : t.inputs = s.inputs :=
  h.keeps State.inputs (fun _ _ hu => by rw [hu]) (by simp) (by simp) (by simp)

/-- The first cause of a halt stays (R193). -/
theorem Ran.haltReason (hs : s.haltReason ≠ .none) : t.haltReason = s.haltReason := by
  induction h with
  | refl => rfl
  | registers _ hu ih => rw [hu]; exact ih
  | read a _ ih => rw [busRead_haltReason]; exact ih
  | write a v _ ih => rw [busWrite_haltReason]; exact ih
  | halt r _ ih => rw [halt_haltReason, ih, if_neg hs]

end

end Sys2Proof.Machine
end

section
/-! SUPPORT. The owner table, which no access changes (spec/20_memory.md R41, R42), and what an access to a peripheral
can do beside answering (log 4, log 5). -/

namespace Sys2Proof.Safety

open Sys2Proof.Machine

theorem SameShape.refl (d : Device) : SameShape d d := ⟨rfl, rfl, rfl, rfl, rfl⟩

theorem SameShape.trans {d e f : Device} (h : SameShape d e) (k : SameShape e f) : SameShape d f := by
  obtain ⟨hk, hb, hs, hr, hw⟩ := h
  obtain ⟨kk, kb, ks, kr, kw⟩ := k
  exact ⟨hk.trans kk, hb.trans kb, hs.trans ks, hr.trans kr, hw.trans kw⟩

theorem SameShape.isStorage {d e : Device} (h : SameShape d e) : e.isStorage = d.isStorage := by
  simp [Device.isStorage, h.1]

end Sys2Proof.Safety

namespace Sys2Proof.Machine

open Sys2Proof.Claims Sys2Proof.Safety

theorem forall₂_sameShape_refl (ds : List Device) : List.Forall₂ SameShape ds ds :=
  List.forall₂_same.mpr fun d _ => .refl d

theorem forall₂_sameShape_trans {ds es fs : List Device} (h : List.Forall₂ SameShape ds es)
    (k : List.Forall₂ SameShape es fs) : List.Forall₂ SameShape ds fs := by
  induction h generalizing fs with
  | nil => exact k
  | cons hd _ ih =>
    cases k with
    | cons kd ks => exact .cons (hd.trans kd) (ih ks)

theorem sameShape_store (d : Device) (off : Nat) (v : Byte) : SameShape d (d.store off v) := by
  simp [SameShape]

/-- A write changes the stored bytes of at most one device (R44). -/
theorem forall₂_sameShape_storeIn (ds : List Device) (a : Nat) (v : Byte) :
    List.Forall₂ SameShape ds (storeIn ds a v) := by
  induction ds with
  | nil => exact .nil
  | cons d rest ih =>
    simp only [storeIn]
    split
    · exact .cons (sameShape_store ..) (forall₂_sameShape_refl rest)
    · exact .cons (.refl d) ih

/-- Bus accesses never change who owns a slot, nor a device's rights. -/
theorem Reached.sameOwners {s t : State} (h : Reached s t) : SameOwners s t :=
  h.induct (P := fun b c => List.Forall₂ SameShape b.devices c.devices) (fun b => forall₂_sameShape_refl b.devices)
    (fun _ _ _ => forall₂_sameShape_trans) (fun b a v => forall₂_sameShape_storeIn b.devices a.toNat v)

theorem Ran.reached {s t : State} (h : Ran s t) : Reached s t := by
  induction h with
  | refl => exact .refl
  | registers _ hu ih => exact .engine ih (by rw [hu]) (by rw [hu])
  | read a _ ih => exact .read a ih
  | write a v _ ih => exact .write a v ih
  | halt r _ ih => exact .engine ih rfl rfl

theorem forall_isStorage_of_sameShape {ds es : List Device} (h : List.Forall₂ SameShape ds es)
    (hd : ∀ d ∈ ds, d.isStorage = true) : ∀ e ∈ es, e.isStorage = true := by
  induction h with
  | nil => exact hd
  | cons hde _ ih =>
    obtain ⟨h1, hs⟩ := List.forall_mem_cons.mp hd
    exact List.forall_mem_cons.mpr ⟨hde.isStorage.trans h1, ih hs⟩

/-- A peripheral is installed after only if one was before. -/
theorem noPeripherals_of_sameOwners {s t : State} (h : SameOwners s t) (hs : NoPeripherals s) : NoPeripherals t :=
  forall_isStorage_of_sameShape h hs

theorem ownerIn_mem {ds : List Device} {a : Nat} {d : Device} (h : ownerIn ds a = some d) : d ∈ ds := by
  induction ds with
  | nil => cases h
  | cons e rest ih =>
    simp only [ownerIn] at h
    split at h
    · cases h; exact List.mem_cons_self
    · exact List.mem_cons_of_mem _ (ih h)

/-- The owner of a slot is no peripheral when none is installed. -/
theorem not_noPeripherals_of_owner {s : State} {a : Word} {d : Device} {n : Nat} (ho : s.bus.owner a = some d)
    (hk : d.kind = .peripheral n) : ¬NoPeripherals s := fun hs => by
  have hd := hs d (ownerIn_mem ho)
  simp [Device.isStorage_of_peripheral hk] at hd

/-! ### Requests and calls -/

theorem pendingKept_of_eq {s t : State} (hn : t.nmiPending = s.nmiPending) (hi : t.irqPending = s.irqPending)
    (ht : t.traffic = s.traffic) : PendingKept s t :=
  ⟨hn.symm ▸ id, hi.symm ▸ id, ht ▸ List.suffix_rfl, fun _ => ⟨hn, hi, ht⟩⟩

theorem pendingKept_trans {s t u : State} (ho : SameOwners s t) (h : PendingKept s t) (k : PendingKept t u) :
    PendingKept s u := by
  obtain ⟨hn, hi, ht, hq⟩ := h
  obtain ⟨kn, ki, kt, kq⟩ := k
  refine ⟨kn ∘ hn, ki ∘ hi, ht.trans kt, fun hs => ?_⟩
  obtain ⟨hn', hi', ht'⟩ := hq hs
  obtain ⟨kn', ki', kt'⟩ := kq (noPeripherals_of_sameOwners ho hs)
  exact ⟨kn'.trans hn', ki'.trans hi', kt'.trans ht'⟩

/-- A call of an installed peripheral only adds a request and a call. -/
theorem pendingKept_touchPeripheral {s : State} (c : DeviceCall) (hs : ¬NoPeripherals s) :
    PendingKept s (touchPeripheral c s) :=
  ⟨by simp +contextual [touchPeripheral], by simp +contextual [touchPeripheral], List.suffix_cons c s.traffic,
    fun h => absurd h hs⟩

theorem busRead_pendingKept (a : Word) (s : State) : PendingKept s (busRead a s).2 := by
  rcases busRead_state s a with h | ⟨d, n, ho, hk, _, h⟩ <;> rw [h]
  · exact pendingKept_of_eq rfl rfl rfl
  · exact pendingKept_touchPeripheral _ (not_noPeripherals_of_owner ho hk)

theorem busWrite_pendingKept (a : Word) (v : Byte) (s : State) : PendingKept s (busWrite a v s) := by
  rcases busWrite_state s a v with h | ⟨d, n, ho, hk, _, h⟩ <;> rw [h]
  · exact pendingKept_of_eq rfl rfl rfl
  · exact pendingKept_touchPeripheral (s := s) _ (not_noPeripherals_of_owner ho hk)

/-- A run only adds requests and calls, and those by a peripheral. -/
theorem Ran.pendingKept {s t : State} (h : Ran s t) : PendingKept s t := by
  induction h with
  | refl => exact pendingKept_of_eq rfl rfl rfl
  | registers h hu ih =>
    exact pendingKept_trans h.reached.sameOwners ih (pendingKept_of_eq (by rw [hu]) (by rw [hu]) (by rw [hu]))
  | read a h ih => exact pendingKept_trans h.reached.sameOwners ih (busRead_pendingKept a _)
  | write a v h ih => exact pendingKept_trans h.reached.sameOwners ih (busWrite_pendingKept a v _)
  | halt r h ih => exact pendingKept_trans h.reached.sameOwners ih (pendingKept_of_eq rfl rfl rfl)

/-- No instruction drops a request. -/
theorem exec_pendingKept {i : Instr} {s t : State} (h : exec i s = .next t) : PendingKept s t := by
  cases exec_ran h with
  | counted _ ht => subst ht; exact pendingKept_of_eq rfl rfl rfl
  | returned _ _ u hr ht => subst ht; exact hr.pendingKept
  | ran _ hr => exact hr.pendingKept

end Sys2Proof.Machine
end

section
/-! SUPPORT. The parts of an iteration around the instruction, field by field, and the step in each case of
spec/40_execution_loop.md R90. -/

namespace Sys2Proof.Machine

open Sys2Proof.Claims

section
variable (s : State)

@[simp] theorem takeInput_flags : (takeInput s).2.flags = s.flags := by
  obtain ⟨l, p, q, h, -, -⟩ := takeInput_state s; rw [h]
@[simp] theorem takeInput_servicing : (takeInput s).2.servicing = s.servicing := by
  obtain ⟨l, p, q, h, -, -⟩ := takeInput_state s; rw [h]
@[simp] theorem takeInput_haltReason : (takeInput s).2.haltReason = s.haltReason := by
  obtain ⟨l, p, q, h, -, -⟩ := takeInput_state s; rw [h]

theorem takeInput_keepsRequests :
    (s.nmiPending = true → (takeInput s).2.nmiPending = true) ∧
    (s.irqPending = true → (takeInput s).2.irqPending = true) := by
  obtain ⟨l, p, q, h, hn, hi⟩ := takeInput_state s; rw [h]; exact ⟨hn, hi⟩

@[simp] theorem fetchInstr_servicing : (fetchInstr s).2.servicing = s.servicing := by
  obtain ⟨c, p, q, n, h, -, -⟩ := fetchInstr_frame s; rw [h]
@[simp] theorem fetchInstr_haltReason : (fetchInstr s).2.haltReason = s.haltReason := by
  obtain ⟨c, p, q, n, h, -, -⟩ := fetchInstr_frame s; rw [h]

theorem fetchInstr_keepsRequests :
    (s.nmiPending = true → (fetchInstr s).2.nmiPending = true) ∧
    (s.irqPending = true → (fetchInstr s).2.irqPending = true) := by
  obtain ⟨c, p, q, n, h, hn, hi⟩ := fetchInstr_frame s; rw [h]; exact ⟨hn, hi⟩

section
variable (b : Bool) (r : StopRequest)
@[simp] theorem endIteration_servicing : (endIteration b r s).servicing = s.servicing := by
  rw [endIteration_state]; rfl
@[simp] theorem endIteration_haltReason : (endIteration b r s).haltReason = s.haltReason := by
  rw [endIteration_state]; rfl
@[simp] theorem endIteration_nmiPending : (endIteration b r s).nmiPending = s.nmiPending := by
  rw [endIteration_state]; rfl
@[simp] theorem endIteration_irqPending : (endIteration b r s).irqPending = s.irqPending := by
  rw [endIteration_state]; rfl
end

/-- A flag B that was set before cannot end the loop; only the deadline can (R96, R97). -/
theorem endIteration_same_b (r : StopRequest) :
    endIteration s.flags.b r s = if r = .deadline then s.setExit (some .deadline) else s := by
  simp [endIteration]

end

section
variable (k : InterruptKind) (s : State)
@[simp] theorem clearPending_servicing : (clearPending k s).servicing = s.servicing := by cases k <;> rfl
@[simp] theorem clearPending_haltReason : (clearPending k s).haltReason = s.haltReason := by cases k <;> rfl

/-- An entry sets `servicing` (R246, R247). -/
@[simp] theorem interruptEntry_servicing : (interruptEntry k s).servicing = true := by
  obtain ⟨u, -, he⟩ := interruptEntry_ran k s
  simp [he]

/-- An entry that overflows does not replace a cause either (R193, R253). -/
theorem interruptEntry_haltReason (hs : s.haltReason ≠ .none) : (interruptEntry k s).haltReason = s.haltReason := by
  obtain ⟨u, hu, he⟩ := interruptEntry_ran k s
  simpa [he] using hu.haltReason hs

end

/-- While an interrupt is in service none is taken (R249). -/
theorem interruptToTake_of_servicing {s : State} (h : s.servicing = true) : interruptToTake s = none := by
  simp [interruptToTake, h]

section
variable {s : State}

theorem takeInput_cons {input : HostInput} {rest : List HostInput} (h : s.inputs = input :: rest) :
    takeInput s = (input, arrive input (s.setInputs rest)) := by
  simp only [takeInput, h]

theorem takeInput_nil (h : s.inputs = []) : takeInput s = (.quiet, s) := by
  simp only [takeInput, h]

theorem step_of_notRunning {e : RunExit} (he : s.exit = some e) : step s = .next s := by
  simp only [step, planIteration, he]

theorem step_of_cancellation (he : s.exit = none) (hs : (takeInput s).1.stop = .cancellation) :
    step s = .next ((takeInput s).2.setExit (some .cancelled)) := by
  simp only [step, planIteration, he, hs]

theorem step_of_gateTimeout (he : s.exit = none) (hs : (takeInput s).1.stop = .gateTimeout) :
    step s = .next ((takeInput s).2.setExit (some .gateTimeout)) := by
  simp only [step, planIteration, he, hs]

/-- An iteration that the host does not stop goes through steps 1 to 4. -/
theorem planIteration_of_notStopped (he : s.exit = none) (hs : NotStopped s) :
    planIteration s = planRunning (takeInput s).1 (takeInput s).2 := by
  rcases hs with hs | hs <;> simp only [planIteration, he, hs]

/-- Nothing to enter and the fetch denied: only the tests that end the loop (R91). -/
theorem step_of_denied (he : s.exit = none) (hs : NotStopped s) (hk : interruptToTake (takeInput s).2 = none)
    (hp : (takeInput s).1.fetchPermit = false) :
    step s = .next (endIteration s.flags.b (takeInput s).1.stop (takeInput s).2) := by
  simp [step, planIteration_of_notStopped he hs, planRunning, hk, hp]

/-- Nothing to enter and the fetch permitted: the instruction fetched, then the tests that end the loop (R94, R95). -/
theorem step_of_fetch {u : State} (he : s.exit = none) (hs : NotStopped s) (hk : interruptToTake (takeInput s).2 = none)
    (hp : (takeInput s).1.fetchPermit = true) (hx : exec (fetched s) (fetchInstr (takeInput s).2).2 = .next u) :
    step s = .next (endIteration s.flags.b (takeInput s).1.stop u) := by
  have hx' : exec (fetchInstr (takeInput s).2).1 (fetchInstr (takeInput s).2).2 = .next u := hx
  simp [step, planIteration_of_notStopped he hs, planRunning, hk, hp, hx']

end

end Sys2Proof.Machine
end

section
/-! The statements of spec/10_state.md: `servicing`, the halt reason, the counter. -/

open Sys2Proof Sys2Proof.Machine Sys2Proof.Safety Sys2Proof.Claims

namespace Sys2Proof.Proofs

/-- Only RTI changes `servicing`, and it clears it. -/
theorem exec_servicing {i : Instr} {s t : State} (h : exec i s = .next t) :
    t.servicing = s.servicing ∨ i = .rti ∧ t.servicing = false := by
  cases exec_ran h with
  | counted _ ht => exact .inl (by rw [ht]; rfl)
  | returned hi _ u _ ht => exact .inr ⟨hi, by rw [ht]; rfl⟩
  | ran _ hr => exact .inl hr.servicing

/-- The three ways a step treats `servicing`: it stays, RTI is fetched and clears it, an entry sets it. -/
theorem step_servicing {s t : State} (h : step s = .next t) :
    t.servicing = s.servicing ∨ (fetched s = .rti ∧ t.servicing = false) ∨
    ((∃ k, interruptToTake (takeInput s).2 = some k) ∧ t.servicing = true) := by
  cases step_cases h with
  | notRunning e he ht => exact .inl (by rw [ht])
  | stopped e he hs ht => exact .inl (by simp [ht])
  | entered k he hs hk ht => exact .inr (.inr ⟨⟨k, hk⟩, by simp [ht]⟩)
  | idle he hs hk hp ht => exact .inl (by simp [ht])
  | executed u he hs hk hp hx ht =>
    rcases exec_servicing hx with hu | ⟨hi, hu⟩
    · exact .inl (by simp [ht, hu])
    · exact .inr (.inl ⟨hi, by simp [ht, hu]⟩)

/-- A step that enters no interrupt drops no request (R249). -/
theorem step_keepsRequests {s t : State} (h : step s = .next t) (hn : interruptToTake (takeInput s).2 = none) :
    (s.nmiPending = true → t.nmiPending = true) ∧ (s.irqPending = true → t.irqPending = true) := by
  obtain ⟨inNmi, inIrq⟩ := takeInput_keepsRequests s
  cases step_cases h with
  | notRunning e he ht => subst ht; exact ⟨id, id⟩
  | stopped e he hs ht => subst ht; exact ⟨inNmi, inIrq⟩
  | entered k he hs hk ht => cases hn.symm.trans hk
  | idle he hs hk hp ht => subst ht; simpa using ⟨inNmi, inIrq⟩
  | executed u he hs hk hp hx ht =>
    obtain ⟨fetchNmi, fetchIrq⟩ := fetchInstr_keepsRequests (takeInput s).2
    obtain ⟨execNmi, execIrq, -, -⟩ := exec_pendingKept hx
    subst ht
    simpa using ⟨execNmi ∘ fetchNmi ∘ inNmi, execIrq ∘ fetchIrq ∘ inIrq⟩

/-- Settles O41, by what an instruction and a step can do to `servicing` and by the step in each case of R90. -/
theorem servicingEndsOnlyByRti : Obligations.ServicingEndsOnlyByRti := by
  refine ⟨fun s t h hs ht => ?ends, fun i s t h ht => ?never, fun s t h hs ht => ?starts,
    interruptEntry_servicing, fun s hs => ?inService⟩
  case ends =>
    rcases step_servicing h with hk | ⟨hi, -⟩ | ⟨-, he⟩
    · simp [hk, hs] at ht
    · exact hi
    · simp [he] at ht
  case never =>
    rcases exec_servicing h with hk | ⟨-, hc⟩
    · exact hk ▸ ht
    · simp [hc] at ht
  case starts =>
    rcases step_servicing h with hk | ⟨-, hc⟩ | ⟨he, -⟩
    · simp [hk, hs] at ht
    · simp [hc] at ht
    · exact he
  case inService =>
    have hn : interruptToTake (takeInput s).2 = none := interruptToTake_of_servicing (by simpa using hs)
    refine ⟨hn, fun he hr hp => ?_, fun he hr hp => step_of_denied he hr hn hp, fun t h => step_keepsRequests h hn⟩
    obtain ⟨u, hu⟩ := exec_completes (fetched s) (fetchInstr (takeInput s).2).2
    exact ⟨u, hu, step_of_fetch he hr hn hp hu⟩

/-- Settles O38: a step reaches the devices by bus accesses only. -/
theorem stepKeepsOwnerTable : Obligations.StepKeepsOwnerTable :=
  fun _ _ h => (step_reached h).sameOwners

theorem exec_haltReason {i : Instr} {s t : State} (h : exec i s = .next t) (hs : s.haltReason ≠ .none) :
    t.haltReason = s.haltReason := by
  cases exec_ran h with
  | counted _ ht => rw [ht]; rfl
  | returned _ _ u hr ht => rw [ht]; exact hr.haltReason hs
  | ran _ hr => exact hr.haltReason hs

/-- Settles O43: `halt` alone writes the reason, and only over None. -/
theorem firstHaltCauseStays : Obligations.FirstHaltCauseStays := by
  refine ⟨fun _ _ _ => exec_haltReason, interruptEntry_haltReason, fun s t h hs => ?_⟩
  have hin : (takeInput s).2.haltReason ≠ .none := by simpa using hs
  cases step_cases h with
  | notRunning e he ht => rw [ht]
  | stopped e he hr ht => simp [ht]
  | entered k he hr hk ht => simp [ht, interruptEntry_haltReason k _ hin]
  | idle he hr hk hp ht => simp [ht]
  | executed u he hr hk hp hx ht => simp [ht, exec_haltReason hx (by simpa using hs)]

/-- Settles O44: `countInvalid` alone writes the counter, and performs exactly the unmapped opcodes. -/
theorem onlyUnmappedOpcodesCount : Obligations.OnlyUnmappedOpcodesCount := by
  intro i s t h
  cases exec_ran h with
  | counted hu ht => rw [ht, hu]; rfl
  | returned _ hu u hr ht => rw [ht, hu]; exact hr.invalidOpcodeCount
  | ran hu hr => rw [hu]; exact hr.invalidOpcodeCount

end Sys2Proof.Proofs
end

section
/-! SUPPORT. Two executions that differ in the decimal flag alone: every operation but five answers the same in both
(spec/10_state.md R13). -/

namespace Sys2Proof.Machine

open Sys2Proof.Claims

/-- The decimal flag at a value of its own, everything else as it is. -/
def State.withDecimal (x : Bool) (s : State) : State := s.setFlags { s.flags with d := x }

section
variable (x : Bool) (s : State)

theorem busRead_withDecimal (a : Word) :
    busRead a (s.withDecimal x) = ((busRead a s).1, (busRead a s).2.withDecimal x) := by
  have ho : (s.withDecimal x).bus.owner a = s.bus.owner a := rfl
  simp only [busRead, ho]
  cases s.bus.owner a with
  | none => rfl
  | some d =>
    dsimp only
    split
    · unfold Device.read
      split <;> rfl
    · rfl

theorem busWrite_withDecimal (a : Word) (v : Byte) :
    busWrite a v (s.withDecimal x) = (busWrite a v s).withDecimal x := by
  have ho : (s.withDecimal x).bus.owner a = s.bus.owner a := rfl
  simp only [busWrite, ho]
  cases s.bus.owner a with
  | none => rfl
  | some d =>
    dsimp only
    split
    · unfold Device.handed
      split <;> rfl
    · rfl

theorem readWord_withDecimal (a : Word) :
    readWord a (s.withDecimal x) = ((readWord a s).1, (readWord a s).2.withDecimal x) := by
  simp only [readWord, busRead_withDecimal]

theorem effAddr_withDecimal (m : MemOperand) :
    effAddr m (s.withDecimal x) = ((effAddr m s).1, (effAddr m s).2.withDecimal x) := by
  cases m with
  | zp | zpx | zpy | abs | absx | absy => rfl
  | ind w => exact readWord_withDecimal x s w
  | indx ll => exact readWord_withDecimal x s _
  | indy ll => simp only [effAddr, readWord_withDecimal]; rfl

theorem readOperand_withDecimal (o : Operand) :
    readOperand o (s.withDecimal x) = ((readOperand o s).1, (readOperand o s).2.withDecimal x) := by
  cases o with
  | imm v => rfl
  | mem m => simp only [readOperand, effAddr_withDecimal, busRead_withDecimal]

theorem writeOperand_withDecimal (m : MemOperand) (v : Byte) :
    writeOperand m v (s.withDecimal x) = (writeOperand m v s).withDecimal x := by
  simp only [writeOperand, effAddr_withDecimal, busWrite_withDecimal]

/-- A modify whose result does not read D and whose flags leave it alone. -/
theorem modifyOperand_withDecimal (p : Place) {r : Byte → Flags → Byte} {g : Byte → Flags → Flags}
    (hr : ∀ v f, r v { f with d := x } = r v f) (hg : ∀ v f, g v { f with d := x } = { g v f with d := x }) :
    modifyOperand p r g (s.withDecimal x) = (modifyOperand p r g s).withDecimal x := by
  have hf : ∀ t : State, (t.withDecimal x).flags = { t.flags with d := x } := fun _ => rfl
  cases p with
  | acc => simp only [modifyOperand, hf, hr, hg]; rfl
  | mem m =>
    simp only [modifyOperand, effAddr_withDecimal, busRead_withDecimal, hf, hr, hg, busWrite_withDecimal]; rfl

theorem push_withDecimal (v : Byte) : push v (s.withDecimal x) = (push v s).withDecimal x := by
  have hsp : (s.withDecimal x).sp = s.sp := rfl
  simp only [push, hsp, busWrite_withDecimal]
  split <;> rfl

theorem pullStep_withDecimal : pullStep (s.withDecimal x) = (pullStep s).withDecimal x := by
  have hu : pullUnderflows (s.withDecimal x) = pullUnderflows s := rfl
  simp only [pullStep, hu]
  split <;> rfl

theorem pull_withDecimal : pull (s.withDecimal x) = ((pull s).1, (pull s).2.withDecimal x) := by
  simp only [pull, pullStep_withDecimal]
  exact busRead_withDecimal x (pullStep s) _

theorem pushWord_withDecimal (w : Word) : pushWord w (s.withDecimal x) = (pushWord w s).withDecimal x := by
  simp only [pushWord, push_withDecimal]

theorem pullWord_withDecimal : pullWord (s.withDecimal x) = ((pullWord s).1, (pullWord s).2.withDecimal x) := by
  simp only [pullWord, pull_withDecimal]

theorem branch_withDecimal (c : Bool) (off : Int) :
    branch c off (s.withDecimal x) = (branch c off s).withDecimal x := by
  unfold branch
  split <;> rfl

theorem compareFlags_decimal (r m : Byte) (f : Flags) :
    compareFlags r m { f with d := x } = { compareFlags r m f with d := x } := by
  unfold compareFlags
  split
  · rfl
  · split <;> rfl

/-- Every operation but those of PHP, PLP, RTI, CLD and SED. -/
theorem operation_withDecimal {i : Instr} {f : State → State} (hf : Operation i f)
    (hi : i ∉ [Instr.php, .plp, .rti, .cld, .sed]) : f (s.withDecimal x) = (f s).withDecimal x := by
  cases hf with
  | lda o | ldx o | ldy o | adc o | sbc o | andA o | oraA o | eorA o =>
    simp only [lda, ldx, ldy, adc, sbc, andA, oraA, eorA, readOperand_withDecimal]
    rfl
  | bitTest m =>
    simp only [bitTest, readOperand_withDecimal]
    rfl
  | cmpA o | cpx o | cpy o =>
    simp only [cmpA, cpx, cpy, readOperand_withDecimal]
    exact congrArg _ (compareFlags_decimal ..)
  | sta m | stx m | sty m => exact writeOperand_withDecimal x s m _
  | incMem m | decMem m => exact modifyOperand_withDecimal x s (.mem m) (fun _ _ => rfl) (fun _ _ => rfl)
  | shift k p => exact modifyOperand_withDecimal x s p (fun _ _ => rfl) (fun _ _ => rfl)
  | tax | tay | txa | tya | tsx | txs | inx | iny | dex | dey | clc | sec | cli | sei | clv | nop | brk => rfl
  | bpl off | bmi off | bvc off | bvs off | bcc off | bcs off | bne off | beq off => exact branch_withDecimal x s _ off
  | jmp m => simp only [jmp, effAddr_withDecimal]; rfl
  | jsr w => simp only [jsr]; exact congrArg (State.setPc · w) (pushWord_withDecimal x s _)
  | rts => simp only [rts, pullWord_withDecimal]; rfl
  | pha => exact push_withDecimal x s s.a
  | pla => simp only [pla, pull_withDecimal]; rfl
  | php | plp | rti | cld | sed => simp at hi

end

end Sys2Proof.Machine
end

section
/-! The statements of spec/10_state.md: the decimal flag. -/

open Sys2Proof Sys2Proof.Machine Sys2Proof.Safety Sys2Proof.Claims

namespace Sys2Proof.Proofs

/-- Settles O45: an unmapped opcode reads no flag, and every other operation carries D along. -/
theorem decimalFlagIsInert : Obligations.DecimalFlagIsInert := by
  intro i s t x hi h
  change exec i (s.withDecimal x) = .next (t.withDecimal x)
  cases exec_cases i with
  | unmapped _ he => cases (he s).symm.trans h; exact he _
  | mapped _ f hf he =>
    cases (he s).symm.trans h
    rw [he, operation_withDecimal x s hf hi]

end Sys2Proof.Proofs
end

section
/-! SUPPORT. The forms of the storing instructions: every row decodes (spec/30_encoding.md R72 to R74) and performs the
operation at the operand of its mode. -/

namespace Sys2Proof.Claims

open Sys2Proof.Machine

/-- The instruction performs the operation `f` at the operand. -/
def Performs {ω : Type} (f : ω → State → State) (i : Instr) (o : ω) : Prop := ∀ s, exec i s = .next (f o s)

section
variable {ω : Type} {opcode : Byte} {P : Instr → ω → Prop} {f : ω → State → State}
  (h : ∀ i o, Performs f i o → P i o)
include h

theorem PlainForm.of_performs {i : Instr} {o : ω} (hf : formOf opcode = .plain i) (he : ∀ s, exec i s = .next (f o s)) :
    PlainForm opcode i o P :=
  ⟨by simp [decode, hf], h i o he⟩

theorem ByteForm.of_performs {c : Byte → Instr} {mode : Byte → ω} (hf : formOf opcode = .byte c)
    (he : ∀ b s, exec (c b) s = .next (f (mode b) s)) : ByteForm opcode c mode P :=
  fun b => ⟨by simp [decode, hf], h (c b) (mode b) (he b)⟩

theorem WordForm.of_performs {c : Word → Instr} {mode : Word → ω} (hf : formOf opcode = .word c)
    (he : ∀ w s, exec (c w) s = .next (f (mode w) s)) : WordForm opcode c mode P :=
  fun w => ⟨by simp [decode, hf], h (c w) (mode w) (he w)⟩

end

section
variable {P : Instr → MemOperand → Prop}

theorem staForms_of_performs (h : ∀ i m, Performs sta i m → P i m) : StaForms P :=
  ⟨.of_performs h rfl fun _ _ => rfl, .of_performs h rfl fun _ _ => rfl, .of_performs h rfl fun _ _ => rfl,
    .of_performs h rfl fun _ _ => rfl, .of_performs h rfl fun _ _ => rfl, .of_performs h rfl fun _ _ => rfl,
    .of_performs h rfl fun _ _ => rfl⟩

theorem stxForms_of_performs (h : ∀ i m, Performs stx i m → P i m) : StxForms P :=
  ⟨.of_performs h rfl fun _ _ => rfl, .of_performs h rfl fun _ _ => rfl, .of_performs h rfl fun _ _ => rfl⟩

theorem styForms_of_performs (h : ∀ i m, Performs sty i m → P i m) : StyForms P :=
  ⟨.of_performs h rfl fun _ _ => rfl, .of_performs h rfl fun _ _ => rfl, .of_performs h rfl fun _ _ => rfl⟩

theorem incForms_of_performs (h : ∀ i m, Performs incMem i m → P i m) : IncForms P :=
  ⟨.of_performs h rfl fun _ _ => rfl, .of_performs h rfl fun _ _ => rfl, .of_performs h rfl fun _ _ => rfl,
    .of_performs h rfl fun _ _ => rfl⟩

theorem decForms_of_performs (h : ∀ i m, Performs decMem i m → P i m) : DecForms P :=
  ⟨.of_performs h rfl fun _ _ => rfl, .of_performs h rfl fun _ _ => rfl, .of_performs h rfl fun _ _ => rfl,
    .of_performs h rfl fun _ _ => rfl⟩

end

section
variable {P : Instr → Place → Prop}

theorem aslForms_of_performs (h : ∀ i p, Performs (shift .asl) i p → P i p) : AslForms P :=
  ⟨.of_performs h rfl fun _ _ => rfl, .of_performs h rfl fun _ => rfl, .of_performs h rfl fun _ _ => rfl,
    .of_performs h rfl fun _ _ => rfl, .of_performs h rfl fun _ _ => rfl⟩

theorem lsrForms_of_performs (h : ∀ i p, Performs (shift .lsr) i p → P i p) : LsrForms P :=
  ⟨.of_performs h rfl fun _ _ => rfl, .of_performs h rfl fun _ => rfl, .of_performs h rfl fun _ _ => rfl,
    .of_performs h rfl fun _ _ => rfl, .of_performs h rfl fun _ _ => rfl⟩

theorem rolForms_of_performs (h : ∀ i p, Performs (shift .rol) i p → P i p) : RolForms P :=
  ⟨.of_performs h rfl fun _ _ => rfl, .of_performs h rfl fun _ => rfl, .of_performs h rfl fun _ _ => rfl,
    .of_performs h rfl fun _ _ => rfl, .of_performs h rfl fun _ _ => rfl⟩

theorem rorForms_of_performs (h : ∀ i p, Performs (shift .ror) i p → P i p) : RorForms P :=
  ⟨.of_performs h rfl fun _ _ => rfl, .of_performs h rfl fun _ => rfl, .of_performs h rfl fun _ _ => rfl,
    .of_performs h rfl fun _ _ => rfl, .of_performs h rfl fun _ _ => rfl⟩

end

end Sys2Proof.Claims
end

section
/-! SUPPORT. The frames of the operations: which tracked registers and flags each of them writes, and what stays. -/

namespace Sys2Proof.Machine

open Sys2Proof.Claims Sys2Proof.Safety

theorem Ran.specialsKept {s t : State} (h : Ran s t) : SpecialsKept s t :=
  ⟨h.servicing, h.invalidOpcodeCount, h.exit, h.inputs⟩

theorem modifyOperand_mem_flags (m : MemOperand) (r : Byte → Flags → Byte) (g : Byte → Flags → Flags) (s : State) :
    (modifyOperand (.mem m) r g s).flags = g (readOperand (.mem m) s).1 s.flags := by
  simp [modifyOperand, readOperand]

/-! ### Registers and flags -/

theorem inRegisters_setFlags {s t : State} {f : Flags} (h : InRegisters s t) : InRegisters s (t.setFlags f) := by
  unfold InRegisters at h ⊢
  rw [h]
  rfl

/-- `put` writes the register that `r` names, and no other register and no flag. -/
def WritesRegister (r : Tracked) (put : State → Byte → State) : Prop :=
  ∀ s v, InRegisters s (put s v) ∧ Untouched [r] s (put s v)

theorem writesRegister_setA : WritesRegister .a State.setA :=
  fun s v => ⟨rfl, fun q hq => by cases q <;> simp at hq <;> rfl⟩

theorem writesRegister_setX : WritesRegister .x State.setX :=
  fun s v => ⟨rfl, fun q hq => by cases q <;> simp at hq <;> rfl⟩

theorem writesRegister_setY : WritesRegister .y State.setY :=
  fun s v => ⟨rfl, fun q hq => by cases q <;> simp at hq <;> rfl⟩

theorem writesRegister_setSp : WritesRegister .sp State.setSp :=
  fun s v => ⟨rfl, fun q hq => by cases q <;> simp at hq <;> rfl⟩

section
variable (s : State) (v : Byte)

theorem untouched_setNZ : Untouched [.zero, .negative] s (s.setFlags (setNZ v s.flags)) := by
  intro q hq
  cases q <;> simp at hq <;> rfl

theorem untouched_shiftFlags (k : ShiftKind) :
    Untouched [.carry, .zero, .negative] s (s.setFlags (shiftFlags k v s.flags)) := by
  intro q hq
  cases q <;> simp at hq <;> rfl

theorem untouched_writeOperand (m : MemOperand) : Untouched [] s (writeOperand m v s) := by
  intro q _
  cases q <;> simp [State.tracked]

/-- A modify of a byte of memory touches no more than its flags do. -/
theorem untouched_modifyOperand {w : List Tracked} (m : MemOperand) (r : Byte → Flags → Byte)
    {g : Byte → Flags → Flags} (hg : ∀ v, Untouched w s (s.setFlags (g v s.flags))) :
    Untouched w s (modifyOperand (.mem m) r g s) := by
  intro q hq
  rw [← hg (readOperand (.mem m) s).1 q hq]
  cases q <;> simp [State.tracked, modifyOperand_mem_flags]

/-- A register write that Z and N are set with (R130) touches the register, Z and N. -/
theorem untouched_putNZ {r : Tracked} {put : State → Byte → State} (hp : WritesRegister r put) :
    Untouched [r, .zero, .negative] s (putNZ put v s) := by
  intro q hq
  have hput := (hp s v).2 q fun hr => hq (List.mem_cons.mpr (.inl (List.mem_singleton.mp hr)))
  have hflags := untouched_setNZ s v q fun hzn => hq (List.mem_cons_of_mem r hzn)
  cases q with
  | pc | sp | a | x | y => exact hput
  | carry | zero | interruptDisable | decimal | brk | overflow | negative => exact hflags

theorem untouched_shift_acc (k : ShiftKind) : Untouched [.a, .carry, .zero, .negative] s (shift k .acc s) := by
  intro q hq
  cases q <;> simp at hq <;> rfl

theorem untouched_branch (c : Bool) (off : Int) : Untouched [.pc] s (branch c off s) := by
  unfold branch
  intro q hq
  split
  · cases q <;> simp at hq <;> rfl
  · rfl

end

/-! ### The frames of the claims -/

section
variable {i : Instr} {w : List Tracked} {m : MemOperand}

/-- An instruction that writes one byte at its operand's address and nothing else. -/
theorem storeFrame_of_writeOperand {r : State → Byte} (he : ∀ s, exec i s = .next (writeOperand m (r s) s)) :
    StoreFrame [] i m := by
  intro s t h
  cases (he s).symm.trans h
  have hr : Ran s (writeOperand m (r s) s) := Ran.refl.writeOperand m _
  refine ⟨untouched_writeOperand s _ m, writeOperand_haltReason .., hr.specialsKept, hr.pendingKept, fun a ha => ?_⟩
  simp only [State.peek, writeOperand_bus]
  exact Bus.peek_write_ne _ _ (by simpa using ha)

/-- An instruction that modifies the byte at its operand's address and sets flags. -/
theorem storeFrame_of_modifyOperand {r : Byte → Flags → Byte} {g : Byte → Flags → Flags}
    (he : ∀ s, exec i s = .next (modifyOperand (.mem m) r g s))
    (hg : ∀ s v, Untouched w s (s.setFlags (g v s.flags))) : StoreFrame w i m := by
  intro s t h
  cases (he s).symm.trans h
  have hr : Ran s (modifyOperand (.mem m) r g s) := Ran.refl.modifyOperand (.mem m) r g
  refine ⟨untouched_modifyOperand s m r (hg s), modifyOperand_haltReason .., hr.specialsKept, hr.pendingKept,
    fun a ha => ?_⟩
  simp only [State.peek, modifyOperand_bus]
  exact Bus.peek_write_ne _ _ (by simpa using ha)

/-- An instruction that writes registers and flags only. -/
theorem registerFrame_of_inRegisters {f : State → State} (he : ∀ s, exec i s = .next (f s))
    (hf : ∀ s, InRegisters s (f s)) (hu : ∀ s, Untouched w s (f s)) : RegisterFrame w i := by
  intro s t h
  cases (he s).symm.trans h
  have hs := hf s
  have hr : Ran s (f s) := .registers .refl hs
  have hb : (f s).bus = s.bus := by rw [hs]
  exact ⟨hu s, by rw [hs], hr.specialsKept, by rw [hs], by rw [hs], by rw [hs], hb, State.peek_congr hb⟩

/-- A transfer, or an index register counted up or down: one register, and Z and N from its new value (R130). -/
theorem registerFrame_of_putNZ {r : Tracked} {put : State → Byte → State} {v : State → Byte}
    (hp : WritesRegister r put) (he : ∀ s, exec i s = .next (putNZ put (v s) s)) :
    RegisterFrame [r, .zero, .negative] i :=
  registerFrame_of_inRegisters he (fun s => inRegisters_setFlags (hp s (v s)).1) fun s => untouched_putNZ s (v s) hp

/-- A shift of A (R175 to R178). -/
theorem registerFrame_of_shift {k : ShiftKind} (he : ∀ s, exec i s = .next (shift k .acc s)) :
    RegisterFrame [.a, .carry, .zero, .negative] i :=
  registerFrame_of_inRegisters he (fun _ => rfl) fun s => untouched_shift_acc s k

theorem inRegisters_branch (c : Bool) (off : Int) (s : State) : InRegisters s (branch c off s) := by
  unfold branch
  split <;> rfl

/-- A branch writes PC only, whatever its condition (R200). -/
theorem registerFrame_of_branch {c : State → Bool} {off : Int} (he : ∀ s, exec i s = .next (branch (c s) off s)) :
    RegisterFrame [.pc] i :=
  registerFrame_of_inRegisters he (fun s => inRegisters_branch (c s) off s) fun s => untouched_branch s (c s) off

end

end Sys2Proof.Machine
end

section
/-! The statements of spec/10_state.md: what the instructions leave unchanged. -/

open Sys2Proof Sys2Proof.Machine Sys2Proof.Safety Sys2Proof.Claims

namespace Sys2Proof.Proofs

/-- A shift of a byte of memory writes C, Z and N (R174). -/
theorem storeFrame_of_shift {k : ShiftKind} {i : Instr} {p : Place} (he : ∀ s, exec i s = .next (shift k p s))
    (m : MemOperand) (hp : p = .mem m) : StoreFrame [.carry, .zero, .negative] i m := by
  subst hp
  exact storeFrame_of_modifyOperand he fun s v => untouched_shiftFlags s v k

/-- Settles O51: a store is one write at the effective address, a modify one read and one write there. -/
theorem frameOfStoringInstructions : Obligations.FrameOfStoringInstructions :=
  ⟨staForms_of_performs fun _ _ he => storeFrame_of_writeOperand he,
    stxForms_of_performs fun _ _ he => storeFrame_of_writeOperand he,
    styForms_of_performs fun _ _ he => storeFrame_of_writeOperand he,
    incForms_of_performs fun _ _ he => storeFrame_of_modifyOperand he fun s _ => untouched_setNZ s _,
    decForms_of_performs fun _ _ he => storeFrame_of_modifyOperand he fun s _ => untouched_setNZ s _,
    aslForms_of_performs fun _ _ => storeFrame_of_shift, lsrForms_of_performs fun _ _ => storeFrame_of_shift,
    rolForms_of_performs fun _ _ => storeFrame_of_shift, rorForms_of_performs fun _ _ => storeFrame_of_shift⟩

/-- Settles O52: each of these instructions writes registers and flags only, and the ones it names. -/
theorem frameOfRegisterInstructions : Obligations.FrameOfRegisterInstructions := by
  have putA {i v} := registerFrame_of_putNZ (i := i) (v := v) writesRegister_setA
  have putX {i v} := registerFrame_of_putNZ (i := i) (v := v) writesRegister_setX
  have putY {i v} := registerFrame_of_putNZ (i := i) (v := v) writesRegister_setY
  have putSp {i v} := registerFrame_of_putNZ (i := i) (v := v) writesRegister_setSp
  refine ⟨putX fun _ => rfl, putY fun _ => rfl, putA fun _ => rfl, putA fun _ => rfl, putX fun _ => rfl,
    putSp fun _ => rfl, putX fun _ => rfl, putY fun _ => rfl, putX fun _ => rfl, putY fun _ => rfl,
    registerFrame_of_shift fun _ => rfl, registerFrame_of_shift fun _ => rfl, registerFrame_of_shift fun _ => rfl,
    registerFrame_of_shift fun _ => rfl, ?clc, ?sec, ?cli, ?sei, ?cld, ?sed, ?clv, ?nop, fun off => ?branches⟩
  case clc | sec | cli | sei | cld | sed | clv | nop =>
    refine registerFrame_of_inRegisters (fun _ => rfl) (fun _ => rfl) fun s q hq => ?_
    cases q <;> simp at hq <;> rfl
  case branches =>
    exact ⟨registerFrame_of_branch fun _ => rfl, registerFrame_of_branch fun _ => rfl,
      registerFrame_of_branch fun _ => rfl, registerFrame_of_branch fun _ => rfl, registerFrame_of_branch fun _ => rfl,
      registerFrame_of_branch fun _ => rfl, registerFrame_of_branch fun _ => rfl, registerFrame_of_branch fun _ => rfl⟩

end Sys2Proof.Proofs
end

section
/-! The statements of spec/10_state.md: the packed flags, an iteration without an instruction, the reset state. -/

namespace Sys2Proof.Machine

/-- A word read of two slots that no peripheral owns gives what any state with the same bus shows there. -/
theorem readWord_plain_of_bus {s t : State} {a : Word} (hb : t.bus = s.bus) (h : s.plainAt a = true)
    (h1 : s.plainAt (a + 1#16) = true) : readWord a t = (wordOf (s.peek (a + 1#16)) (s.peek a), t) := by
  have hp : ∀ b, t.plainAt b = s.plainAt b := fun b => by simp only [State.plainAt, hb]
  rw [readWord_plain ((hp a).trans h) ((hp _).trans h1), State.peek_congr hb, State.peek_congr hb]

/-- The vector of a reset is read from storage, and nothing but the register file and the special registers is written
(R270 to R272). -/
theorem engineReset_plain {s : State} (h : s.plainAt 0xFFFC#16 = true) (h1 : s.plainAt 0xFFFD#16 = true) :
    engineReset s = { s with
      pc := wordOf (s.peek 0xFFFD#16) (s.peek 0xFFFC#16), sp := 0xFF#8, a := 0x00#8, x := 0x00#8, y := 0x00#8
      flags := Flags.reset, nmiPending := false, irqPending := false, servicing := false, haltReason := .none
      invalidOpcodeCount := 0 } := by
  have hv : ∀ t : State, t.bus = s.bus →
      readWord Config.resetVector t = (wordOf (s.peek 0xFFFD#16) (s.peek 0xFFFC#16), t) :=
    fun _ hb => readWord_plain_of_bus hb h h1
  unfold engineReset
  dsimp only
  rw [hv]
  · rfl
  · rfl

end Sys2Proof.Machine

open Sys2Proof Sys2Proof.Machine Sys2Proof.Safety Sys2Proof.Claims

namespace Sys2Proof.Proofs

theorem pack_bits (f : Flags) :
    f.pack.getLsbD 7 = f.n ∧ f.pack.getLsbD 6 = f.v ∧ f.pack.getLsbD 5 = true ∧ f.pack.getLsbD 4 = f.b ∧
    f.pack.getLsbD 3 = f.d ∧ f.pack.getLsbD 2 = f.i ∧ f.pack.getLsbD 1 = f.z ∧ f.pack.getLsbD 0 = f.c := by
  obtain ⟨c, z, i, d, b, v, n⟩ := f
  revert c z i d b v n
  decide

theorem unpack_pack (f : Flags) : Flags.unpack f.pack = f := by
  obtain ⟨hn, hv, -, hb, hd, hi, hz, hc⟩ := pack_bits f
  simp only [Flags.unpack, hn, hv, hb, hd, hi, hz, hc]

theorem pack_unpack (b : Byte) : (Flags.unpack b).pack = b ||| 0x20#8 := by
  revert b
  decide

/-- Settles O5: the layout bit by bit, and the inverse from it. -/
theorem packedFlagByteLayout : Obligations.PackedFlagByteLayout :=
  ⟨pack_bits, fun _ => rfl, unpack_pack, pack_unpack⟩

/-- Settles O33, by the step in each case of R90 that executes nothing. -/
theorem stepIdlesOrStops : Obligations.StepIdlesOrStops := by
  refine ⟨fun s h rest => takeInput_cons, fun s => takeInput_nil, fun s he hs hk hp => ?idle,
    fun s he hs hk hp => ?deadline, fun s => step_of_cancellation, fun s => step_of_gateTimeout,
    fun s e => step_of_notRunning⟩
  case idle =>
    rw [step_of_denied he (.inl hs) hk hp, ← takeInput_flags, endIteration_same_b, hs]
    rfl
  case deadline =>
    rw [step_of_denied he (.inr hs) hk hp, ← takeInput_flags, endIteration_same_b, hs]
    rfl

/-- Settles O37: the table of R26 by evaluation, the engine reset by its one word read. -/
theorem resetState : Obligations.ResetState :=
  ⟨rfl, by decide, rfl, rfl, rfl, rfl, rfl, rfl, rfl, rfl, rfl, rfl, rfl, rfl, rfl, rfl,
    fun _ h => absurd h List.not_mem_nil, engineReset_plain rfl rfl, fun _ => engineReset_plain⟩

end Sys2Proof.Proofs
end

section
/-! SUPPORT. What a run of bus accesses keeps of the devices and of the record of calls (spec/20_memory.md R40 to R45,
R51, R58, R59; log 4). -/

namespace Sys2Proof.Machine

open Sys2Proof.Claims Sys2Proof.Safety

/-! ### The devices -/

/-- Canonical form is kept by bus accesses. -/
theorem Reached.busOk {s t : State} (h : Reached s t) : BusOk s → BusOk t :=
  h.induct (P := fun b c => b.wf = true → c.wf = true) (fun _ => id) (fun _ _ _ hbc hcd => hcd ∘ hbc)
    (fun _ a v => Bus.wf_write a v)

theorem Reached.watermarkWidens {s t : State} (h : Reached s t) : WatermarkWidens s t :=
  h.induct (P := fun b c => c.wmLow.toNat ≤ b.wmLow.toNat ∧ b.wmHigh.toNat ≤ c.wmHigh.toNat)
    (fun _ => ⟨le_rfl, le_rfl⟩)
    (fun _ _ _ ⟨lowBC, highBC⟩ ⟨lowCD, highCD⟩ => ⟨lowCD.trans lowBC, highBC.trans highCD⟩)
    (fun b a v => by simp)

/-- Whatever a store leaves alone in a device, a write leaves alone in every device of the list. -/
theorem map_storeIn {α : Type} (f : Device → α) (hf : ∀ d off v, f (Device.store d off v) = f d) (ds : List Device)
    (a : Nat) (v : Byte) : (storeIn ds a v).map f = ds.map f := by
  induction ds with
  | nil => rfl
  | cons d rest ih =>
    simp only [storeIn]
    split
    · rw [List.map_cons, List.map_cons, hf]
    · rw [List.map_cons, List.map_cons, ih]

/-- The bytes of a device that cannot write; those of any other are not fixed (spec/20_memory.md R44, R58). -/
def Device.fixedCells (d : Device) : Option (List Host.Cell) := if d.canWrite then none else some d.cells

theorem Device.fixedCells_of_readOnly {d : Device} (h : d.canWrite = false) : d.fixedCells = some d.cells := by
  simp [Device.fixedCells, h]

theorem Device.fixedCells_store (d : Device) (off : Nat) (v : Byte) : (d.store off v).fixedCells = d.fixedCells := by
  cases hw : d.canWrite with
  | false => rw [Device.store_of_readOnly off v hw]
  | true => simp [Device.fixedCells, hw]

theorem Device.cells_of_fixedCells_eq {d e : Device} (h : d.fixedCells = e.fixedCells) (hd : d.canWrite = false) :
    d.cells = e.cells := by
  rw [Device.fixedCells_of_readOnly hd] at h
  cases he : e.canWrite with
  | false => simpa [Device.fixedCells_of_readOnly he] using h
  | true => simp [Device.fixedCells, he] at h

theorem Reached.map_fixedCells {s t : State} (h : Reached s t) :
    s.bus.devices.map Device.fixedCells = t.bus.devices.map Device.fixedCells :=
  h.induct (P := fun b c => b.devices.map Device.fixedCells = c.devices.map Device.fixedCells) (fun _ => rfl)
    (fun _ _ _ => Eq.trans) (fun b a v => (map_storeIn _ Device.fixedCells_store b.devices a.toNat v).symm)

theorem Reached.keepsReadOnly {s t : State} (h : Reached s t) : KeepsReadOnly s t := by
  have hmap : List.Forall₂ Eq (s.bus.devices.map Device.fixedCells) (t.bus.devices.map Device.fixedCells) := by
    rw [List.forall₂_eq_eq_eq]
    exact h.map_fixedCells
  rw [List.forall₂_map_left_iff, List.forall₂_map_right_iff] at hmap
  exact hmap.imp fun _ _ => Device.cells_of_fixedCells_eq

/-! ### The record of calls -/

theorem Reached.traffic_suffix {s t : State} (h : Reached s t) : s.traffic <:+ t.traffic := by
  induction h with
  | refl => exact List.suffix_rfl
  | engine _ _ ht ih => exact ht ▸ ih
  | read a _ ih =>
    obtain ⟨-, -, hcalls, -⟩ := busRead_pendingKept a _
    exact ih.trans hcalls
  | write a v _ ih =>
    obtain ⟨-, -, hcalls, -⟩ := busWrite_pendingKept a v _
    exact ih.trans hcalls

theorem exists_mem_of_forall₂ {R : Device → Device → Prop} {ds es : List Device} (h : List.Forall₂ R ds es)
    {d : Device} (hd : d ∈ ds) : ∃ e ∈ es, R d e := by
  induction h with
  | nil => cases hd
  | cons hde _ ih =>
    cases hd with
    | head => exact ⟨_, List.mem_cons_self, hde⟩
    | tail _ hd =>
      obtain ⟨e, he, hr⟩ := ih hd
      exact ⟨e, List.mem_cons_of_mem _ he, hr⟩

/-- A call that the bus can make asks only for the shape of the devices. -/
theorem callOk_of_sameShape {ds es : List Device} {c : DeviceCall} (h : List.Forall₂ SameShape ds es)
    (hc : CallOk ds c) : CallOk es c := by
  obtain ⟨d, hd, hcall⟩ := hc
  obtain ⟨e, he, hkind, -, hsize, hread, hwrite⟩ := exists_mem_of_forall₂ h hd
  rw [hkind, hsize, hread, hwrite] at hcall
  exact ⟨e, he, hcall⟩

theorem trafficOk_touchPeripheral {s : State} {c : DeviceCall} (h : TrafficOk s) (hc : CallOk s.bus.devices c) :
    TrafficOk (touchPeripheral c s) :=
  List.forall_mem_cons.mpr ⟨hc, h⟩

/-- A read calls the slot's owner only, inside its size (R59), and only one that can be read (R43). -/
theorem busRead_trafficOk {s : State} (a : Word) (h : TrafficOk s) : TrafficOk (busRead a s).2 := by
  rcases busRead_state s a with hs | ⟨d, n, ho, hk, hr, hs⟩ <;> rw [hs]
  · exact h
  · exact trafficOk_touchPeripheral h ⟨d, ownerIn_mem ho, hk, ownerIn_offset_lt ho, hr⟩

/-- A write calls the slot's owner only, inside its size (R59), and only one that can be written (R44). -/
theorem busWrite_trafficOk {s : State} (a : Word) (v : Byte) (h : TrafficOk s) : TrafficOk (busWrite a v s) := by
  have hshape : List.Forall₂ SameShape s.bus.devices (s.bus.write a v).devices := forall₂_sameShape_storeIn ..
  have hstored : TrafficOk (s.setBus (s.bus.write a v)) := fun c hc => callOk_of_sameShape hshape (h c hc)
  rcases busWrite_state s a v with hs | ⟨d, n, ho, hk, hw, hs⟩ <;> rw [hs]
  · exact hstored
  · exact trafficOk_touchPeripheral hstored
      (callOk_of_sameShape hshape ⟨d, ownerIn_mem ho, hk, ownerIn_offset_lt ho, hw⟩)

theorem Reached.trafficOk {s t : State} (h : Reached s t) (hs : TrafficOk s) : TrafficOk t := by
  induction h with
  | refl => exact hs
  | engine _ hb ht ih => unfold TrafficOk; rw [hb, ht]; exact ih
  | read a _ ih => exact busRead_trafficOk a ih
  | write a v _ ih => exact busWrite_trafficOk a v ih

end Sys2Proof.Machine
end

section
/-! SUPPORT. What the reads of an operand leave (spec/41_addressing_modes.md R124, R125), and `install`. -/

namespace Sys2Proof.Machine

open Sys2Proof.Claims Sys2Proof.Safety

/-- The change from `s` to `t` is in the pending flags and the calls of the peripherals (log 4, log 5). -/
def InRequests (s t : State) : Prop :=
  t = { s with nmiPending := t.nmiPending, irqPending := t.irqPending, traffic := t.traffic }

theorem InRequests.trans {s t u : State} (h : InRequests s t) (k : InRequests t u) : InRequests s u := by
  unfold InRequests at h k ⊢
  rw [k, h]

theorem inRequests_busRead (a : Word) (s : State) : InRequests s (busRead a s).2 := by
  rcases busRead_state s a with h | ⟨_, _, _, _, _, h⟩ <;> rw [h] <;> rfl

theorem inRequests_readWord (a : Word) (s : State) : InRequests s (readWord a s).2 :=
  (inRequests_busRead a s).trans (inRequests_busRead (a + 1#16) _)

theorem inRequests_effAddr (m : MemOperand) (s : State) : InRequests s (effAddr m s).2 := by
  cases m with
  | zp | zpx | zpy | abs | absx | absy => rfl
  | ind | indx | indy => exact inRequests_readWord _ s

theorem inRequests_readOperand (o : Operand) (s : State) : InRequests s (readOperand o s).2 := by
  cases o with
  | imm => rfl
  | mem m => exact (inRequests_effAddr m s).trans (inRequests_busRead _ _)

/-- A change of requests and calls that keeps the old ones, and is none without a peripheral. -/
theorem InRequests.eq_of_noPeripherals {s t : State} (h : InRequests s t) (hk : PendingKept s t)
    (hs : NoPeripherals s) : t = s := by
  obtain ⟨-, -, -, hkept⟩ := hk
  obtain ⟨hnmi, hirq, hcalls⟩ := hkept hs
  unfold InRequests at h
  rw [h, hnmi, hirq, hcalls]

section
variable {d : Device} (s : State)

theorem install_of_fits (h : d.base + d.size ≤ Config.addressSpace) :
    install d s = .next (s.setBus { s.bus with devices := d :: s.bus.devices }) := by
  simp [install, h]

/-- A range past 65536 is refused (spec/20_memory.md R41). -/
theorem install_pastTop (h : Config.addressSpace < d.base + d.size) : install d s = .refused .installPastTop := by
  simp [install, h]

end

end Sys2Proof.Machine
end

section
/-! The statements of spec/20_memory.md: what a step keeps of the bus, words and fetches, operand reads, `install`. -/

open Sys2Proof Sys2Proof.Machine Sys2Proof.Safety Sys2Proof.Claims

namespace Sys2Proof.Proofs

/-- Settles O36: a step reaches the devices by bus accesses only, and a bus write keeps the canonical form. -/
theorem stepKeepsBusCanonical : Obligations.StepKeepsBusCanonical :=
  fun _ _ hb h => (step_reached h).busOk hb

/-- Settles O59: a step calls peripherals by bus accesses only, and each of those calls the owner of its slot. -/
theorem stepKeepsTrafficOk : Obligations.StepKeepsTrafficOk :=
  fun _ _ hs h => (step_reached h).trafficOk hs

/-- Settles O39: a step reaches the devices by bus accesses only, and a store leaves a device that cannot write. -/
theorem stepKeepsReadOnlyContents : Obligations.StepKeepsReadOnlyContents :=
  fun _ _ h => (step_reached h).keepsReadOnly

/-- Settles O40: a write takes the minimum and the maximum with its address. -/
theorem watermarkOnlyWidens : Obligations.WatermarkOnlyWidens :=
  fun _ _ h => (step_reached h).watermarkWidens

/-- Settles O60: a bus access adds at most one call in front. -/
theorem callsOfPeripheralsOnlyGrow : Obligations.CallsOfPeripheralsOnlyGrow :=
  fun _ _ h => (step_reached h).traffic_suffix

/-- Settles O11: an operand read is a run of bus reads, which change requests and calls only. -/
theorem operandReadsLeaveNoTrace : Obligations.OperandReadsLeaveNoTrace := by
  intro s o
  have hin : InRequests s (readOperand o s).2 := inRequests_readOperand o s
  have hkept : PendingKept s (readOperand o s).2 := (Ran.refl.readOperand o).pendingKept
  have ⟨hnmi, hirq, hcalls, _⟩ := hkept
  exact ⟨⟨_, _, _, hin, hnmi, hirq, hcalls⟩, hin.eq_of_noPeripherals hkept⟩

/-- Settles O9: the byte accesses by definition, the word's bytes and PC from their laws. -/
theorem wordsAndFetchesAreLittleEndian : Obligations.WordsAndFetchesAreLittleEndian := by
  refine ⟨fun _ _ => rfl, fun _ _ _ => rfl,
    fun hi lo => ⟨toNat_wordOf hi lo, lowByte_wordOf hi lo, highByte_wordOf hi lo⟩, fun _ => rfl,
    fun s => ⟨rfl, ?_⟩⟩
  rw [fetch16_pc, BitVec.add_assoc]
  rfl

/-- Settles O55: an accepted install puts the device in front of the list that the owner is found in. -/
theorem installOverridesEarlierOwners : Obligations.InstallOverridesEarlierOwners := by
  refine fun d s => ⟨fun hfits => ⟨_, install_of_fits s hfits, fun a => ?owner, rfl, rfl, fun hb hd => ?canonical⟩,
    install_pastTop s⟩
  case owner => simp [Bus.owner, ownerIn, Device.covers]
  case canonical => simpa [BusOk, Bus.wf, hd] using hb

end Sys2Proof.Proofs
end

section
/-! SUPPORT. Decoding by the form of the opcode's table entry: what each form makes of the bytes after the opcode, and
nothing else (spec/30_encoding.md R71 to R76). -/

namespace Sys2Proof

section
variable {opcode : Byte} {rest : List Byte}

theorem decode_of_plain {i : Instr} (hf : formOf opcode = .plain i) : decode (opcode :: rest) = .ok (i, rest) := by
  simp [decode, hf]

theorem decode_of_byte {k : Byte → Instr} (hf : formOf opcode = .byte k) (b : Byte) :
    decode (opcode :: b :: rest) = .ok (k b, rest) := by
  simp [decode, hf]

theorem decode_of_rel {k : Int → Instr} (hf : formOf opcode = .rel k) (b : Byte) :
    decode (opcode :: b :: rest) = .ok (k (signed8 b), rest) := by
  simp [decode, hf]

theorem decode_of_word {k : Word → Instr} (hf : formOf opcode = .word k) (lo hi : Byte) :
    decode (opcode :: lo :: hi :: rest) = .ok (k (wordOf hi lo), rest) := by
  simp [decode, hf]

/-- A displacement in the range of a byte survives its operand byte (R73, R80). -/
theorem decode_rel_byteOfInt {k : Int → Instr} {off : Int} (hf : formOf opcode = .rel k)
    (ho : validDisplacement off = true) : decode (opcode :: byteOfInt off :: rest) = .ok (k off, rest) := by
  rw [decode_of_rel hf, signed8_byteOfInt ho]

/-- A word survives its two operand bytes (R73). -/
theorem decode_word_bytes {k : Word → Instr} (hf : formOf opcode = .word k) (w : Word) :
    decode (opcode :: lowByte w :: highByte w :: rest) = .ok (k w, rest) := by
  rw [decode_of_word hf, wordOf_bytes]

/-- The ways a text that starts with an opcode byte decodes: one for each form of the opcode's entry. -/
inductive Decoded (opcode : Byte) (rest' : List Byte) : List Byte → Instr → Prop
  | plain {i : Instr} (hf : formOf opcode = .plain i) : Decoded opcode rest' rest' i
  | byte {k : Byte → Instr} (hf : formOf opcode = .byte k) (b : Byte) : Decoded opcode rest' (b :: rest') (k b)
  | rel {k : Int → Instr} (hf : formOf opcode = .rel k) (b : Byte) : Decoded opcode rest' (b :: rest') (k (signed8 b))
  | word {k : Word → Instr} (hf : formOf opcode = .word k) (lo hi : Byte) :
    Decoded opcode rest' (lo :: hi :: rest') (k (wordOf hi lo))

theorem decode_cases {rest' : List Byte} {i : Instr} (h : decode (opcode :: rest) = .ok (i, rest')) :
    Decoded opcode rest' rest i := by
  simp only [decode] at h
  split at h
  next hf => cases h; exact .plain hf
  next hf => cases h; exact .byte hf _
  next hf => cases h; exact .rel hf _
  next hf => cases h; exact .word hf _ _
  all_goals cases h

/-- An instruction decoded is one the opcode's entry makes, so it encodes back to the bytes it came from (R70, R76). -/
theorem Decoded.encodes {rest' : List Byte} {i : Instr} (h : Decoded opcode rest' rest i) :
    i.WellFormed ∧ encode i ++ rest' = opcode :: rest := by
  have he := formOf_encodes opcode
  cases h with
  | plain hf =>
    rw [hf] at he
    exact ⟨he.2, by rw [he.1]; rfl⟩
  | byte hf b =>
    rw [hf] at he
    exact ⟨(he b).2, by rw [(he b).1]; rfl⟩
  | rel hf b =>
    rw [hf] at he
    obtain ⟨hbytes, hwf⟩ := he (signed8 b)
    exact ⟨hwf.trans (validDisplacement_signed8 b), by rw [hbytes, byteOfInt_signed8]; rfl⟩
  | word hf lo hi =>
    rw [hf] at he
    obtain ⟨hbytes, hwf⟩ := he (wordOf hi lo)
    exact ⟨hwf, by rw [hbytes, lowByte_wordOf, highByte_wordOf]; rfl⟩

/-- A text decodes when it holds the operand bytes of its opcode's form (R76). -/
theorem decode_of_length_le (h : (formOf opcode).length ≤ rest.length + 1) :
    ∃ r, decode (opcode :: rest) = .ok r := by
  match hf : formOf opcode, rest with
  | .plain _, _ => exact ⟨_, decode_of_plain hf⟩
  | .byte _, b :: _ => exact ⟨_, decode_of_byte hf b⟩
  | .rel _, b :: _ => exact ⟨_, decode_of_rel hf b⟩
  | .word _, lo :: hi :: _ => exact ⟨_, decode_of_word hf lo hi⟩
  | .byte _, [] | .rel _, [] | .word _, [] | .word _, [_] => simp [hf, Form.length] at h

/-- No form reaches past the text it decodes. -/
theorem Decoded.length_le {rest' : List Byte} {i : Instr} (h : Decoded opcode rest' rest i) :
    (formOf opcode).length ≤ rest.length + 1 := by
  cases h with
  | plain hf | byte hf _ | rel hf _ | word hf _ _ => simp [hf, Form.length]

end

/-! ### The bytes without an instruction (R75) -/

open Sys2Proof.Claims

theorem decode_unmappedRows : ∀ p ∈ unmappedRows, decode [p.1] = .ok (p.2, []) := by decide +kernel

/-- An unmapped byte needs no operand byte. -/
theorem formOf_unmappedRows {p : Byte × Instr} (hp : p ∈ unmappedRows) : formOf p.1 = .plain p.2 := by
  cases decode_cases (decode_unmappedRows p hp) with
  | plain hf => exact hf

theorem encode_unmappedRows {p : Byte × Instr} (hp : p ∈ unmappedRows) : encode p.2 = [p.1] := by
  have he := formOf_encodes p.1
  rw [formOf_unmappedRows hp] at he
  exact he.1

theorem isUnmapped_iff {i : Instr} : isUnmapped i = true ↔ ∃ p ∈ unmappedRows, p.2 = i := by
  simp [isUnmapped]

end Sys2Proof
end

section
/-! The statements of spec/30_encoding.md: the decoder and the encoder. -/

open Sys2Proof Sys2Proof.Machine Sys2Proof.Claims

namespace Sys2Proof.Proofs

/-- Settles O1, by one case for each way an operand is held: a displacement comes back from its byte because it is well
formed, a word from its two bytes, and a byte or no operand as it stands. -/
theorem decodeReadsBackEncode : Obligations.DecodeReadsBackEncode := by
  intro i rest hwf
  cases i with
  | bpl off | bmi off | bvc off | bvs off | bcc off | bcs off | bne off | beq off => exact decode_rel_byteOfInt rfl hwf
  | oraAbs w | oraAbsy w | oraAbsx w | aslAbs w | aslAbsx w | jsr w | bitAbs w | andAbs w | andAbsy w | andAbsx w
  | rolAbs w | rolAbsx w | eorAbs w | eorAbsy w | eorAbsx w | jmpAbs w | jmpInd w | lsrAbs w | lsrAbsx w | adcAbs w
  | adcAbsy w | adcAbsx w | rorAbs w | rorAbsx w | staAbs w | staAbsy w | staAbsx w | stxAbs w | styAbs w | ldaAbs w
  | ldaAbsy w | ldaAbsx w | ldxAbs w | ldxAbsy w | ldyAbs w | ldyAbsx w | cmpAbs w | cmpAbsy w | cmpAbsx w | cpxAbs w
  | cpyAbs w | decAbs w | decAbsx w | incAbs w | incAbsx w | sbcAbs w | sbcAbsy w | sbcAbsx w =>
    exact decode_word_bytes rfl w
  | _ => rfl

/-- Settles O2, by the form that the opcode's entry has. -/
theorem encodeReadsBackDecode : Obligations.EncodeReadsBackDecode := by
  intro bytes rest i h
  cases bytes with
  | nil => cases h
  | cons opcode operands => exact (decode_cases h).encodes

/-- Settles O4, by the form that the opcode's entry has. -/
theorem decodeRefusesOnlyShortText : Obligations.DecodeRefusesOnlyShortText :=
  ⟨rfl, fun _ _ => ⟨fun ⟨_, h⟩ => (decode_cases h).length_le, decode_of_length_le⟩⟩

/-- Settles O28: a listed byte's entry is its constructor alone, so it decodes to nothing else, and the constructor
encodes to no other byte. -/
theorem unmappedOpcodesAreCounted : Obligations.UnmappedOpcodesAreCounted := by
  refine ⟨rfl, fun p hp => ⟨decode_unmappedRows p hp, ?counted⟩, fun b rest rest' i h => ?listed⟩
  case counted =>
    cases exec_cases p.2 with
    | unmapped _ he => exact he
    | mapped hu => cases hu.symm.trans (isUnmapped_iff.mpr ⟨p, hp, rfl⟩)
  case listed =>
    rw [isUnmapped_iff, List.mem_map]
    constructor
    · rintro ⟨p, hp, rfl⟩
      obtain ⟨_, hb⟩ := (decode_cases h).encodes
      rw [encode_unmappedRows hp] at hb
      exact ⟨p, hp, (List.cons.inj hb).1⟩
    · rintro ⟨p, hp, rfl⟩
      rw [decode_of_plain (formOf_unmappedRows hp)] at h
      cases h
      exact ⟨p, hp, rfl⟩

/-- Settles O3, by running the decoder on each word. -/
theorem sampleWordsDecode : Obligations.SampleWordsDecode :=
  ⟨rfl, rfl, rfl, rfl, rfl, rfl, rfl, rfl, rfl⟩

end Sys2Proof.Proofs
end

section
/-! SUPPORT. The loader (spec/30_encoding.md R80 to R82): the value and the patch of a reference, what a fixup answers,
and a row of bytes written at rising addresses. -/

namespace Sys2Proof.Machine

open Sys2Proof.Safety

/-! ### A byte written through the bus -/

section
variable {s : State} {a : Word}

/-- A RAM, or a ROM in burn mode, shows the byte last written (spec/20_memory.md R58). -/
theorem peek_busWrite_self (v : Byte) (hb : BusOk s) (h : RamAt s a) : (busWrite a v s).peek a = v := by
  obtain ⟨d, ho, hr, hw, hs⟩ := h
  simp only [State.peek, busWrite_bus]
  exact Bus.peek_write_self v hb ho hr hw hs

theorem ramAt_iff : RamAt s a ↔
    (s.bus.owner a).map (fun d => (d.canRead, d.canWrite, d.isStorage)) = some (true, true, true) := by
  simp [RamAt]

/-- A write leaves every RAM where it is. -/
theorem ramAt_busWrite (a' : Word) (v : Byte) (h : RamAt s a) : RamAt (busWrite a' v s) a := by
  rw [ramAt_iff] at h ⊢
  rw [busWrite_bus, ← h]
  exact ownerIn_storeIn_map _ (by simp) s.bus.devices a'.toNat a.toNat v

theorem busOk_busWrite (a' : Word) (v : Byte) (h : BusOk s) : BusOk (busWrite a' v s) :=
  (Reached.write a' v .refl).busOk h

end

/-! ### References -/

/-- The lowest value that the site of a reference can hold (R80). -/
def RefSite.low : RefSite → Int
  | .word | .byte => 0
  | .relative => -128

/-- The highest value that the site of a reference can hold (R80). -/
def RefSite.high : RefSite → Int
  | .word => 65535
  | .byte => 255
  | .relative => 127

/-- The value a reference asks for, before its range is tested (R80). -/
def PendingRef.wanted (r : PendingRef) (label : Nat) : Int :=
  selected r.selector (match r.site with
    | .word | .byte => label + r.offset
    | .relative => label + r.offset - r.address - 1)

section
variable {r : PendingRef}

/-- A reference takes the value it asks for exactly if its site can hold it. -/
theorem PendingRef.value_eq (r : PendingRef) (label : Nat) :
    r.value label = if r.site.low ≤ r.wanted label ∧ r.wanted label ≤ r.site.high then .ok (r.wanted label)
      else .error (.outOfRange r.label) := by
  cases hs : r.site <;> simp [PendingRef.value, PendingRef.wanted, RefSite.low, RefSite.high, validDisplacement, hs]

/-- A relative reference that resolves without a selector has the displacement from the byte after its own. -/
theorem PendingRef.eq_of_value_relative {label : Nat} {d : Int} (hs : r.site = .relative) (hb : r.selector = .both)
    (h : r.value label = .ok d) : d = label + r.offset - r.address - 1 ∧ validDisplacement d = true := by
  rw [PendingRef.value_eq] at h
  split at h
  next hd =>
    cases h
    rw [hs] at hd
    exact ⟨by simp [PendingRef.wanted, hs, hb, selected], decide_eq_true hd⟩
  next => cases h

theorem PendingRef.patch_of_relative (hs : r.site = .relative) (d : Int) (s : State) :
    r.patch d s = busWrite (BitVec.ofNat 16 r.address) (byteOfInt d) s := by
  simp [PendingRef.patch, hs]

theorem PendingRef.resolve_of_findLabel {labels : List (String × Nat)} {label : Nat}
    (h : findLabel labels r.label = some label) : r.resolve labels = r.value label := by
  simp [PendingRef.resolve, h]

end

/-! ### Fixup -/

theorem mem_fixupErrors {labels : List (String × Nat)} {refs : List PendingRef} {r : PendingRef} {e : FixupError}
    (hr : r ∈ refs) (he : r.resolve labels = .error e) : e ∈ fixupErrors labels refs := by
  induction refs with
  | nil => cases hr
  | cons q refs ih =>
    simp only [fixupErrors]
    rcases List.mem_cons.mp hr with rfl | hr
    · simp [he]
    · split
      · exact ih hr
      · exact List.mem_cons_of_mem _ (ih hr)

/-- A failed load reports every error (R81). -/
theorem Loader.fixup_of_mem_errors {l : Loader} {e : FixupError} (h : e ∈ fixupErrors l.labels l.pending) :
    l.fixup = .error (fixupErrors l.labels l.pending) := by
  unfold Loader.fixup
  split
  next hn => simp [hn] at h
  next hc => rw [hc]

theorem Loader.fixup_of_single {l : Loader} {r : PendingRef} {v : Int} (hp : l.pending = [r])
    (hv : r.resolve l.labels = .ok v) : l.fixup = .ok { l with machine := r.patch v l.machine, pending := [] } := by
  simp [Loader.fixup, hp, fixupErrors, patchAll, hv]

/-- A branch reaches the target its displacement was counted from PC to (R123). -/
theorem branchTarget_of_displacement {s : State} {target : Int} {next : Nat} (hpc : s.pc = BitVec.ofNat 16 next) :
    branchTarget (target - next) s = BitVec.ofInt 16 target := by
  rw [branchTarget, hpc, wordOfInt, ← BitVec.ofInt_natCast, ← BitVec.ofInt_add]
  congr 1
  omega

/-! ### Bytes at rising addresses -/

/-- Addresses outside the row read as before. -/
theorem peek_writeBytes_outside {bytes : List Byte} {base : Nat} {s : State} {a : Word}
    (htop : base + bytes.length ≤ 65536) (ha : a.toNat < base ∨ base + bytes.length ≤ a.toNat) :
    (writeBytes base bytes s).peek a = s.peek a := by
  induction bytes generalizing base s with
  | nil => rfl
  | cons v rest ih =>
    rw [List.length_cons] at htop ha
    have hne : a ≠ BitVec.ofNat 16 base := by
      intro he
      rw [he, BitVec.toNat_ofNat] at ha
      omega
    rw [writeBytes, ih (by omega) (by omega), peek_busWrite_ne v hne]

/-- Over RAM, byte `i` of the row is read at its first address plus `i`. -/
theorem peek_writeBytes_inside {bytes : List Byte} {base : Nat} {s : State} (hb : BusOk s) (hr : ∀ a, RamAt s a)
    (htop : base + bytes.length ≤ 65536) {k : Nat} (hk : k < bytes.length) :
    (writeBytes base bytes s).peek (BitVec.ofNat 16 (base + k)) = bytes[k] := by
  induction bytes generalizing base s k with
  | nil => cases hk
  | cons v rest ih =>
    rw [List.length_cons] at htop
    rw [writeBytes]
    cases k with
    | zero =>
      rw [peek_writeBytes_outside (by omega) (.inl (by rw [BitVec.toNat_ofNat]; omega))]
      exact peek_busWrite_self v hb (hr _)
    | succ k =>
      have hnext : base + (k + 1) = base + 1 + k := by omega
      rw [hnext]
      exact ih (busOk_busWrite _ v hb) (fun a => ramAt_busWrite _ v (hr a)) (by omega) (Nat.lt_of_succ_lt_succ hk)

/-- An image whose header gives the length of its payload is written at its own address, or refused past the top
(R82). -/
theorem loadImage_own_address (s : State) (base : Word) {payload : List Byte} (hl : payload.length < 65536) :
    loadImage (lowByte base :: highByte base :: lowByte (BitVec.ofNat 16 payload.length) ::
        highByte (BitVec.ofNat 16 payload.length) :: payload) none s =
      if base.toNat + payload.length ≤ 65536 then .next (writeBytes base.toNat payload s)
      else .refused .imagePastTop := by
  simp [loadImage, Config.addressSpace, Nat.mod_eq_of_lt hl]

end Sys2Proof.Machine
end

section
/-! The statements of spec/30_encoding.md: what the loader puts into memory. -/

open Sys2Proof Sys2Proof.Machine Sys2Proof.Claims

namespace Sys2Proof.Proofs

/-- Settles O56: the displacement is counted from the address past the reference, which is PC after the fetch. -/
theorem relativeFixupMeetsTheBranch : Obligations.RelativeFixupMeetsTheBranch := by
  intro r label d hs hsel hd
  obtain ⟨hval, hvalid⟩ := PendingRef.eq_of_value_relative hs hsel hd
  refine ⟨signed8_byteOfInt hvalid, fun l hp hf => ?fixup, fun s hb hr => ?memory, fun s hpc => ?target⟩
  case fixup => exact Loader.fixup_of_single hp ((PendingRef.resolve_of_findLabel hf).trans hd)
  case memory =>
    rw [PendingRef.patch_of_relative hs]
    exact ⟨peek_busWrite_self _ hb hr, fun a ha => peek_busWrite_ne _ ha⟩
  case target =>
    have hcount : d = label + r.offset - (r.address + 1 : Nat) := by omega
    rw [hcount, branchTarget_of_displacement hpc]

/-- Settles O57, by induction on the payload. -/
theorem binaryImageLandsAtItsAddress : Obligations.BinaryImageLandsAtItsAddress := by
  intro s base payload hb hr hl image
  have hload := loadImage_own_address s base hl
  refine ⟨fun htop => ⟨_, hload.trans (if_pos htop), fun k hk => peek_writeBytes_inside hb hr htop hk,
    fun a ha => peek_writeBytes_outside htop ha⟩, fun htop => hload.trans (if_neg (by omega))⟩

/-- Settles O58: a reference takes the value it asks for exactly if its site can hold it, and a fixup reports every
reference that does not. -/
theorem fixupValues : Obligations.FixupValues := by
  intro r label v w low high
  have hlow : r.site.low = low := by subst low; cases r.site <;> rfl
  have hhigh : r.site.high = high := by subst high; cases r.site <;> rfl
  have hw : r.wanted label = w := by subst w v; unfold PendingRef.wanted; cases r.site <;> cases r.selector <;> rfl
  have hvalue := r.value_eq label
  rw [hlow, hhigh, hw] at hvalue
  refine ⟨fun hin => hvalue.trans (if_pos hin), fun hout => ?_⟩
  have herr := hvalue.trans (if_neg hout)
  refine ⟨herr, fun l hr hf => ?_⟩
  have hmem := mem_fixupErrors hr ((PendingRef.resolve_of_findLabel hf).trans herr)
  exact ⟨_, Loader.fixup_of_mem_errors hmem, hmem⟩

end Sys2Proof.Proofs
end

section
/-! SUPPORT. When B becomes 1, and that a cause is then recorded (spec/45_stack.md R193, spec/40_execution_loop.md R96):
each push and pull, an interrupt entry, and every instruction. -/

namespace Sys2Proof.Machine

section
variable (s : State)

theorem push_b_iff (v : Byte) : (push v s).flags.b = true ↔ s.flags.b = true ∨ s.sp = 0x00#8 := by
  rw [push_flags]
  split <;> simp [*]

theorem push_haltReason_eq_none_iff (v : Byte) :
    (push v s).haltReason = .none ↔ s.haltReason = .none ∧ s.sp ≠ 0x00#8 := by
  rw [push_haltReason]
  by_cases hr : s.haltReason = .none <;> simp [hr]

theorem pull_b_iff : (pull s).2.flags.b = true ↔ s.flags.b = true ∨ s.sp = 0xFF#8 := by
  rw [pull_flags]
  split <;> simp [*]

theorem pull_haltReason_eq_none_iff : (pull s).2.haltReason = .none ↔ s.haltReason = .none ∧ s.sp ≠ 0xFF#8 := by
  rw [pull_haltReason]
  by_cases hr : s.haltReason = .none <;> simp [hr]

/-- The three pushes of an entry overflow exactly when SP is 0, 1 or 2 (R253). -/
theorem pushes_overflow_iff (p : Byte) :
    (p = 0x00#8 ∨ p - 1#8 = 0x00#8) ∨ p - 1#8 - 1#8 = 0x00#8 ↔ p.toNat ≤ 2 := by
  bv_omega

theorem pushContext_b_iff : (pushContext s).flags.b = true ↔ s.flags.b = true ∨ s.sp.toNat ≤ 2 := by
  simp only [pushContext, pushWord, push_b_iff, push_sp, or_assoc, ← pushes_overflow_iff]

theorem pushContext_haltReason_eq_none_iff :
    (pushContext s).haltReason = .none ↔ s.haltReason = .none ∧ ¬s.sp.toNat ≤ 2 := by
  simp only [pushContext, pushWord, push_haltReason_eq_none_iff, push_sp, ← pushes_overflow_iff, not_or, and_assoc]

end

section
variable (k : InterruptKind) (s : State)

theorem maskAtEntry_b : (maskAtEntry k s).flags.b = s.flags.b := by cases k <;> rfl
theorem maskAtEntry_haltReason : (maskAtEntry k s).haltReason = s.haltReason := by cases k <;> rfl
theorem clearPending_flags : (clearPending k s).flags = s.flags := by cases k <;> rfl

/-- An entry sets B by an overflow of its pushes and not otherwise (R246, R247, R253). -/
theorem interruptEntry_b_iff : (interruptEntry k s).flags.b = true ↔ s.flags.b = true ∨ s.sp.toNat ≤ 2 := by
  simp [interruptEntry, clearPending_flags, maskAtEntry_b, pushContext_b_iff]

/-- An entry records a cause by an overflow of its pushes and not otherwise (R253). -/
theorem interruptEntry_haltReason_eq_none_iff :
    (interruptEntry k s).haltReason = .none ↔ s.haltReason = .none ∧ ¬s.sp.toNat ≤ 2 := by
  simp [interruptEntry, maskAtEntry_haltReason, pushContext_haltReason_eq_none_iff]

end

/-! ### Instructions -/

/-- The instructions that can set B: BRK, and those that push or pull (R96). -/
def MaySetBreak (i : Instr) : Prop :=
  i ∈ [Instr.brk, .pha, .php, .pla, .plp, .rts, .rti] ∨ ∃ w, i = .jsr w

/-- If B became 1, a cause of the halt is recorded (R193, R228). -/
def BreakHasCause (s t : State) : Prop := t.flags.b = true → s.flags.b = true ∨ t.haltReason ≠ .none

/-- The first cause stays (R193), so a later run does not take it away. -/
theorem BreakHasCause.trans {s t u : State} (h : BreakHasCause s t) (k : BreakHasCause t u) (hr : Ran t u) :
    BreakHasCause s u := fun hu =>
  (k hu).elim (fun ht => (h ht).imp_right fun hc => hr.haltReason hc ▸ hc) .inr

/-- What an instruction can make of B: it stays, or becomes 1 with a cause, or is pulled from the stack (R197, R229). -/
inductive BreakCase (i : Instr) (s t : State) : Prop
  | kept (h : t.flags.b = s.flags.b)
  | caused (hi : MaySetBreak i) (h : BreakHasCause s t)
  | pulled (hi : i = .plp ∨ i = .rti)

section
variable (s : State)

theorem push_breakHasCause (v : Byte) : BreakHasCause s (push v s) := fun h =>
  ((push_b_iff s v).mp h).imp_right fun hsp hr => ((push_haltReason_eq_none_iff s v).mp hr).2 hsp

theorem pull_breakHasCause : BreakHasCause s (pull s).2 := fun h =>
  ((pull_b_iff s).mp h).imp_right fun hsp hr => ((pull_haltReason_eq_none_iff s).mp hr).2 hsp

theorem pushWord_breakHasCause (w : Word) : BreakHasCause s (pushWord w s) :=
  (push_breakHasCause s _).trans (push_breakHasCause _ _) (Ran.refl.push _)

theorem pullWord_breakHasCause : BreakHasCause s (pullWord s).2 :=
  (pull_breakHasCause s).trans (pull_breakHasCause _) Ran.refl.pull

theorem halt_haltReason_ne {r : HaltReason} (hr : r ≠ .none) : (halt r s).haltReason ≠ .none := by
  rw [halt_haltReason]
  split <;> assumption

theorem compareFlags_b (r m : Byte) (f : Flags) : (compareFlags r m f).b = f.b := by
  unfold compareFlags
  split
  · rfl
  · split <;> rfl

theorem readOperand_b (o : Operand) : (readOperand o s).2.flags.b = s.flags.b := by rw [readOperand_flags]

/-- A modify whose flags leave B alone. -/
theorem modifyOperand_b (p : Place) (r : Byte → Flags → Byte) {g : Byte → Flags → Flags}
    (hg : ∀ v f, (g v f).b = f.b) : (modifyOperand p r g s).flags.b = s.flags.b := by
  cases p with
  | acc => exact hg ..
  | mem m => rw [modifyOperand_mem_flags]; exact hg ..

theorem branch_flags (c : Bool) (off : Int) : (branch c off s).flags = s.flags := by
  unfold branch
  split <;> rfl

theorem Operation.breakCase {i : Instr} {f : State → State} (hf : Operation i f) : BreakCase i s (f s) := by
  cases hf with
  | lda o | ldx o | ldy o | andA o | oraA o | eorA o | adc o | sbc o => exact .kept (readOperand_b s o)
  | bitTest m => exact .kept (readOperand_b s (.mem m))
  | cmpA o | cpx o | cpy o => exact .kept ((compareFlags_b ..).trans (readOperand_b s o))
  | sta m | stx m | sty m => exact .kept (congrArg Flags.b (writeOperand_flags s m _))
  | incMem m | decMem m => exact .kept (modifyOperand_b s (.mem m) _ fun _ _ => rfl)
  | shift k p => exact .kept (modifyOperand_b s p _ fun _ _ => rfl)
  | jmp m => exact .kept (congrArg Flags.b (effAddr_flags s m))
  | tax | tay | txa | tya | tsx | txs | inx | iny | dex | dey | clc | sec | cli | sei | cld | sed | clv | nop =>
    exact .kept rfl
  | bpl off | bmi off | bvc off | bvs off | bcc off | bcs off | bne off | beq off =>
    exact .kept (congrArg Flags.b (branch_flags s _ off))
  | jsr w => exact .caused (.inr ⟨w, rfl⟩) (pushWord_breakHasCause s _)
  | rts => exact .caused (.inl (by decide)) (pullWord_breakHasCause s)
  | pha | php => exact .caused (.inl (by decide)) (push_breakHasCause s _)
  | pla => exact .caused (.inl (by decide)) (pull_breakHasCause s)
  | brk => exact .caused (.inl (by decide)) fun _ => .inr (halt_haltReason_ne s (by decide))
  | plp => exact .pulled (.inl rfl)
  | rti => exact .pulled (.inr rfl)

end

theorem exec_breakCase {i : Instr} {s t : State} (h : exec i s = .next t) : BreakCase i s t := by
  cases exec_cases i with
  | unmapped _ he => cases (he s).symm.trans h; exact .kept rfl
  | mapped _ f hf he => cases (he s).symm.trans h; exact hf.breakCase s

end Sys2Proof.Machine
end

section
/-! SUPPORT. The rest of an iteration field by field: SP and B around the instruction, how the loop is left, and the
fetch of an instruction that stands in no peripheral (spec/40_execution_loop.md R90 to R97). -/

namespace Sys2Proof

/-- Every entry of the decode table has its opcode byte (R72). -/
theorem Form.length_pos (f : Form) : 0 < f.length := by
  cases f <;> exact Nat.succ_pos _

end Sys2Proof

namespace Sys2Proof.Machine

open Sys2Proof.Claims Sys2Proof.Safety

section
variable (s : State)

@[simp] theorem takeInput_sp : (takeInput s).2.sp = s.sp := by
  obtain ⟨l, p, q, h, -, -⟩ := takeInput_state s; rw [h]
@[simp] theorem takeInput_exit : (takeInput s).2.exit = s.exit := by
  obtain ⟨l, p, q, h, -, -⟩ := takeInput_state s; rw [h]
@[simp] theorem fetchInstr_flags : (fetchInstr s).2.flags = s.flags := by
  obtain ⟨c, p, q, n, h, -, -⟩ := fetchInstr_frame s; rw [h]
@[simp] theorem fetchInstr_exit : (fetchInstr s).2.exit = s.exit := by
  obtain ⟨c, p, q, n, h, -, -⟩ := fetchInstr_frame s; rw [h]
@[simp] theorem endIteration_flags (b : Bool) (r : StopRequest) : (endIteration b r s).flags = s.flags := by
  rw [endIteration_state]; rfl

theorem clearPending_exit (k : InterruptKind) : (clearPending k s).exit = s.exit := by cases k <;> rfl

/-- An entry does not leave the loop. -/
@[simp] theorem interruptEntry_exit (k : InterruptKind) : (interruptEntry k s).exit = s.exit := by
  obtain ⟨u, hu, he⟩ := interruptEntry_ran k s
  rw [he, clearPending_exit]
  exact hu.exit

end

/-- No instruction leaves the loop. -/
theorem exec_exit {i : Instr} {s t : State} (h : exec i s = .next t) : t.exit = s.exit := by
  cases exec_ran h with
  | counted _ ht => rw [ht]; rfl
  | returned _ _ u hr ht => rw [ht]; exact hr.exit
  | ran _ hr => exact hr.exit

/-- How the tests at the end of an iteration leave a loop that runs: halted (R96), at the deadline (R97), or running. -/
theorem endIteration_exit {s : State} (b : Bool) (r : StopRequest) (hs : s.exit = none) :
    (endIteration b r s).exit =
      if b = false ∧ s.flags.b = true then some .halted else if r = .deadline then some .deadline else none := by
  have htest : (s.flags.b && !b) = true ↔ b = false ∧ s.flags.b = true := by simp [and_comm]
  simp only [endIteration, htest]
  split
  · rfl
  · split
    · rfl
    · exact hs

section
variable {s : State}

/-- An iteration that the host does not stop ends with the tests R96 and R97 on a state whose loop runs. -/
theorem step_ends {t : State} (he : s.exit = none) (hs : NotStopped s) (h : step s = .next t) :
    ∃ u : State, u.exit = none ∧ t = endIteration s.flags.b (takeInput s).1.stop u := by
  cases step_cases h with
  | notRunning e he' ht => cases he.symm.trans he'
  | stopped e _ hstop ht =>
    rcases hs with hs | hs <;> simp [hs] at hstop
  | entered k _ _ hk ht => exact ⟨interruptEntry k (takeInput s).2, by simp [he], takeInput_flags s ▸ ht⟩
  | idle _ _ hk hp ht => exact ⟨(takeInput s).2, by simp [he], takeInput_flags s ▸ ht⟩
  | executed u _ _ hk hp hx ht => exact ⟨u, by simp [exec_exit hx, he], takeInput_flags s ▸ ht⟩

/-- An interrupt to take is entered, then the tests that end the loop (R245 to R248). -/
theorem step_of_interrupt {k : InterruptKind} (he : s.exit = none) (hs : NotStopped s)
    (hk : interruptToTake (takeInput s).2 = some k) :
    step s = .next (endIteration (takeInput s).2.flags.b (takeInput s).1.stop (interruptEntry k (takeInput s).2)) := by
  simp only [step, planIteration_of_notStopped he hs, planRunning, hk]

theorem fetch8_setPc_plain {a : Word} (h : Plain s a) : fetch8 (s.setPc a) = (s.peek a, s.setPc (a + 1#16)) :=
  fetch8_plain (s := s.setPc a) h

theorem fetch16_setPc_plain {a : Word} (h : Plain s a) (h1 : Plain s (a + 1#16)) :
    fetch16 (s.setPc a) = (wordOf (s.peek (a + 1#16)) (s.peek a), s.setPc (a + 1#16 + 1#16)) :=
  fetch16_plain (s := s.setPc a) h h1

/-- The instruction fetched at bytes in no peripheral is the one they decode to, and PC is past it (R76, R94, R110). -/
theorem fetchInstr_plain {i : Instr} {rest : List Byte}
    (hd : decode [s.peek s.pc, s.peek (s.pc + 1#16), s.peek (s.pc + 2#16)] = .ok (i, rest))
    (hp : ∀ k < i.length, Plain s (s.pc + BitVec.ofNat 16 k)) :
    fetchInstr s = (i, s.setPc (s.pc + BitVec.ofNat 16 i.length)) := by
  have h2 : s.pc + 1#16 + 1#16 = s.pc + 2#16 := by bv_omega
  have h3 : s.pc + 2#16 + 1#16 = s.pc + 3#16 := by bv_omega
  have hl := decode_length hd
  rw [hl] at hp ⊢
  have hop : fetch8 s = (s.peek s.pc, s.setPc (s.pc + 1#16)) := by
    have h := hp 0 (Form.length_pos _)
    exact fetch8_plain (by simpa using h)
  cases decode_cases hd with
  | plain hf => simp [fetchInstr, hop, hf, Form.length]
  | byte hf | rel hf =>
    have h1 : Plain s (s.pc + 1#16) := hp 1 (by simp [hf, Form.length])
    simp [fetchInstr, hop, hf, Form.length, fetch8_setPc_plain h1, h2]
  | word hf =>
    have h1 : Plain s (s.pc + 1#16) := hp 1 (by simp [hf, Form.length])
    have h2p : Plain s (s.pc + 1#16 + 1#16) := h2 ▸ hp 2 (by simp [hf, Form.length])
    simp [fetchInstr, hop, hf, Form.length, fetch16_setPc_plain h1 h2p, h2, h3]

end

end Sys2Proof.Machine
end

section
/-! The statements of spec/40_execution_loop.md. -/

open Sys2Proof Sys2Proof.Machine Sys2Proof.Safety Sys2Proof.Claims

namespace Sys2Proof.Proofs

/-- Settles O35: an iteration plans at most one instruction, and every instruction completes. -/
theorem stepAlwaysCompletes : Obligations.StepAlwaysCompletes := by
  intro s
  unfold step
  cases planIteration s with
  | finished t => exact ⟨t, rfl⟩
  | execute i t b r =>
    obtain ⟨u, hu⟩ := exec_completes i t
    exact ⟨endIteration b r u, by simp only [hu]⟩

/-- Settles O34, by the tests at the end of the iteration. -/
theorem loopEndsWhenBreakBecomesSet : Obligations.LoopEndsWhenBreakBecomesSet := by
  intro s t he hs h
  obtain ⟨u, hu, rfl⟩ := step_ends he hs h
  rw [endIteration_exit _ _ hu, endIteration_flags]
  by_cases hb : s.flags.b = false ∧ u.flags.b = true
  · simp [hb]
  · rcases hs with hs | hs <;> simp [hb, hs]

/-- Settles O32: where an interrupt is to be taken the permit is not looked at. -/
theorem stepEntersInterruptWithoutPermit : Obligations.StepEntersInterruptWithoutPermit :=
  fun _ _ => step_of_interrupt

/-- Settles O31: the fetch gives the decoded instruction and the state past it. -/
theorem stepRunsDecodedInstruction : Obligations.StepRunsDecodedInstruction := by
  intro s s1 i rest he hs hpermit hs1 hk hd hp
  subst hs1
  have hf := fetchInstr_plain hd hp
  have hi : fetched s = i := congrArg Prod.fst hf
  obtain ⟨u, hu⟩ := exec_completes i ((takeInput s).2.setPc ((takeInput s).2.pc + BitVec.ofNat 16 i.length))
  have hx : exec (fetched s) (fetchInstr (takeInput s).2).2 = .next u := by rw [hi, hf]; exact hu
  unfold State.setPc at hu
  rw [step_of_fetch he hs hk hpermit hx, hu, takeInput_flags]

/-- An instruction that takes B from 0 to 1, and what it records. -/
theorem exec_setsBreak {i : Instr} {s t : State} (h : exec i s = .next t) (hs : s.flags.b = false)
    (ht : t.flags.b = true) : MaySetBreak i ∧ (t.haltReason = .none → i = .plp ∨ i = .rti) := by
  cases exec_breakCase h with
  | kept hk => simp [hs, ht] at hk
  | caused hi hc => exact ⟨hi, fun hr => by simpa [hs, hr] using hc ht⟩
  | pulled hi => exact ⟨.inl (by rcases hi with rfl | rfl <;> decide), fun _ => hi⟩

/-- Settles O42: from the cases of an instruction and the pushes of an entry, by the cases of a step. -/
theorem breakIsSetOnlyBy : Obligations.BreakIsSetOnlyBy := by
  refine ⟨fun i s t => exec_setsBreak, fun k s hs => ⟨?entry, ?entryHalts⟩, fun s t h hs ht => ?step⟩
  case entry => simp [interruptEntry_b_iff, hs]
  case entryHalts => simp +contextual [interruptEntry_b_iff, interruptEntry_haltReason_eq_none_iff, hs]
  case step =>
    cases step_cases h with
    | notRunning e he hst => simp [hst, hs] at ht
    | stopped e he hr hst => simp [hst, hs] at ht
    | entered k he hr hk hst =>
      have hsp : s.sp.toNat ≤ 2 := by simpa [hst, interruptEntry_b_iff, hs] using ht
      exact .inl ⟨k, hk, hsp, by simp [hst, interruptEntry_haltReason_eq_none_iff, hsp]⟩
    | idle he hr hk hp hst => simp [hst, hs] at ht
    | executed u he hr hk hp hx hst =>
      subst hst
      have hset := exec_setsBreak hx (by simpa using hs) (by simpa using ht)
      rw [endIteration_haltReason]
      exact .inr ⟨hk, hset⟩

end Sys2Proof.Proofs
end

section
/-! SUPPORT. Effective addresses in numbers (spec/41_addressing_modes.md R113 to R122). -/

namespace Sys2Proof

theorem zext16_eq_ofNat (b : Byte) : zext16 b = BitVec.ofNat 16 b.toNat := by
  rw [BitVec.ofNat_toNat]
  rfl

theorem toNat_zext16 (b : Byte) : (zext16 b).toNat = b.toNat := by
  have h := b.isLt
  rw [zext16_eq_ofNat, BitVec.toNat_ofNat, Nat.mod_eq_of_lt (by omega)]

/-- A zero-page sum wraps inside the page (R115, R116). -/
theorem toNat_zext16_add (b c : Byte) : (zext16 (b + c)).toNat = (b.toNat + c.toNat) % 256 :=
  (toNat_zext16 _).trans (BitVec.toNat_add b c)

/-- An index is added modulo the whole space (R118, R119, R122). -/
theorem toNat_add_zext16 (w : Word) (b : Byte) : (w + zext16 b).toNat = (w.toNat + b.toNat) % 65536 := by
  rw [BitVec.toNat_add, toNat_zext16]

end Sys2Proof
end

section
/-! SUPPORT. The forms of the reading instructions: every row decodes (spec/30_encoding.md R72 to R74) and performs the
operation at the operand of its mode. -/

namespace Sys2Proof.Claims

open Sys2Proof.Machine

section
variable {P : Instr → Operand → Prop}

theorem ldaForms_of_performs (h : ∀ i o, Performs lda i o → P i o) : LdaForms P :=
  ⟨.of_performs h rfl fun _ _ => rfl, .of_performs h rfl fun _ _ => rfl, .of_performs h rfl fun _ _ => rfl,
    .of_performs h rfl fun _ _ => rfl, .of_performs h rfl fun _ _ => rfl, .of_performs h rfl fun _ _ => rfl,
    .of_performs h rfl fun _ _ => rfl, .of_performs h rfl fun _ _ => rfl⟩

theorem ldxForms_of_performs (h : ∀ i o, Performs ldx i o → P i o) : LdxForms P :=
  ⟨.of_performs h rfl fun _ _ => rfl, .of_performs h rfl fun _ _ => rfl, .of_performs h rfl fun _ _ => rfl,
    .of_performs h rfl fun _ _ => rfl, .of_performs h rfl fun _ _ => rfl⟩

theorem ldyForms_of_performs (h : ∀ i o, Performs ldy i o → P i o) : LdyForms P :=
  ⟨.of_performs h rfl fun _ _ => rfl, .of_performs h rfl fun _ _ => rfl, .of_performs h rfl fun _ _ => rfl,
    .of_performs h rfl fun _ _ => rfl, .of_performs h rfl fun _ _ => rfl⟩

theorem adcForms_of_performs (h : ∀ i o, Performs adc i o → P i o) : AdcForms P :=
  ⟨.of_performs h rfl fun _ _ => rfl, .of_performs h rfl fun _ _ => rfl, .of_performs h rfl fun _ _ => rfl,
    .of_performs h rfl fun _ _ => rfl, .of_performs h rfl fun _ _ => rfl, .of_performs h rfl fun _ _ => rfl,
    .of_performs h rfl fun _ _ => rfl, .of_performs h rfl fun _ _ => rfl⟩

theorem sbcForms_of_performs (h : ∀ i o, Performs sbc i o → P i o) : SbcForms P :=
  ⟨.of_performs h rfl fun _ _ => rfl, .of_performs h rfl fun _ _ => rfl, .of_performs h rfl fun _ _ => rfl,
    .of_performs h rfl fun _ _ => rfl, .of_performs h rfl fun _ _ => rfl, .of_performs h rfl fun _ _ => rfl,
    .of_performs h rfl fun _ _ => rfl, .of_performs h rfl fun _ _ => rfl⟩

theorem cmpForms_of_performs (h : ∀ i o, Performs cmpA i o → P i o) : CmpForms P :=
  ⟨.of_performs h rfl fun _ _ => rfl, .of_performs h rfl fun _ _ => rfl, .of_performs h rfl fun _ _ => rfl,
    .of_performs h rfl fun _ _ => rfl, .of_performs h rfl fun _ _ => rfl, .of_performs h rfl fun _ _ => rfl,
    .of_performs h rfl fun _ _ => rfl, .of_performs h rfl fun _ _ => rfl⟩

theorem cpxForms_of_performs (h : ∀ i o, Performs cpx i o → P i o) : CpxForms P :=
  ⟨.of_performs h rfl fun _ _ => rfl, .of_performs h rfl fun _ _ => rfl, .of_performs h rfl fun _ _ => rfl⟩

theorem cpyForms_of_performs (h : ∀ i o, Performs cpy i o → P i o) : CpyForms P :=
  ⟨.of_performs h rfl fun _ _ => rfl, .of_performs h rfl fun _ _ => rfl, .of_performs h rfl fun _ _ => rfl⟩

theorem andForms_of_performs (h : ∀ i o, Performs andA i o → P i o) : AndForms P :=
  ⟨.of_performs h rfl fun _ _ => rfl, .of_performs h rfl fun _ _ => rfl, .of_performs h rfl fun _ _ => rfl,
    .of_performs h rfl fun _ _ => rfl, .of_performs h rfl fun _ _ => rfl, .of_performs h rfl fun _ _ => rfl,
    .of_performs h rfl fun _ _ => rfl, .of_performs h rfl fun _ _ => rfl⟩

theorem oraForms_of_performs (h : ∀ i o, Performs oraA i o → P i o) : OraForms P :=
  ⟨.of_performs h rfl fun _ _ => rfl, .of_performs h rfl fun _ _ => rfl, .of_performs h rfl fun _ _ => rfl,
    .of_performs h rfl fun _ _ => rfl, .of_performs h rfl fun _ _ => rfl, .of_performs h rfl fun _ _ => rfl,
    .of_performs h rfl fun _ _ => rfl, .of_performs h rfl fun _ _ => rfl⟩

theorem eorForms_of_performs (h : ∀ i o, Performs eorA i o → P i o) : EorForms P :=
  ⟨.of_performs h rfl fun _ _ => rfl, .of_performs h rfl fun _ _ => rfl, .of_performs h rfl fun _ _ => rfl,
    .of_performs h rfl fun _ _ => rfl, .of_performs h rfl fun _ _ => rfl, .of_performs h rfl fun _ _ => rfl,
    .of_performs h rfl fun _ _ => rfl, .of_performs h rfl fun _ _ => rfl⟩

end

theorem bitForms_of_performs {P : Instr → MemOperand → Prop} (h : ∀ i m, Performs bitTest i m → P i m) : BitForms P :=
  ⟨.of_performs h rfl fun _ _ => rfl, .of_performs h rfl fun _ _ => rfl⟩

end Sys2Proof.Claims
end

section
/-! SUPPORT. The frames of the reading instructions: bus reads first, then registers and flags
(spec/41_addressing_modes.md R124). -/

namespace Sys2Proof.Machine

open Sys2Proof.Claims Sys2Proof.Safety

/-! ### Registers and flags -/

/-- The operation writes no more than the registers and flags named. -/
def WritesOnly (w : List Tracked) (f : State → State) : Prop := ∀ s, InRegisters s (f s) ∧ Untouched w s (f s)

/-- A comparison writes C, Z and N in each of its three cases (R153). -/
theorem compareFlags_writes (r m : Byte) (f : Flags) :
    ∃ c z n, compareFlags r m f = { f with c := c, z := z, n := n } := by
  unfold compareFlags
  split
  · exact ⟨_, _, _, rfl⟩
  · split <;> exact ⟨_, _, _, rfl⟩

theorem untouched_compareFlags (s : State) (r m : Byte) :
    Untouched [.carry, .zero, .negative] s (s.setFlags (compareFlags r m s.flags)) := by
  obtain ⟨c, z, n, hc⟩ := compareFlags_writes r m s.flags
  rw [hc]
  intro q hq
  cases q <;> simp at hq <;> rfl

theorem writesOnly_putNZ {r : Tracked} {put : State → Byte → State} (hp : WritesRegister r put) (v : State → Byte) :
    WritesOnly [r, .zero, .negative] fun s => putNZ put (v s) s :=
  fun s => ⟨inRegisters_setFlags (hp s (v s)).1, untouched_putNZ s (v s) hp⟩

section
variable (m : Byte)

/-- ADC and SBC, on the byte that the adder is given (R151, R152). -/
theorem writesOnly_addFlags : WritesOnly [.a, .carry, .zero, .overflow, .negative] fun s =>
    (s.setA (addWithCarry s.a m s.flags.c).result).setFlags (addFlags (addWithCarry s.a m s.flags.c) s.flags) :=
  fun s => ⟨rfl, fun q hq => by cases q <;> simp at hq <;> rfl⟩

theorem writesOnly_compareFlags (r : State → Byte) :
    WritesOnly [.carry, .zero, .negative] fun s => s.setFlags (compareFlags (r s) m s.flags) :=
  fun s => ⟨rfl, untouched_compareFlags s (r s) m⟩

theorem writesOnly_bitFlags : WritesOnly [.zero, .overflow, .negative] fun s => s.setFlags (bitFlags s.a m s.flags) :=
  fun s => ⟨rfl, fun q hq => by cases q <;> simp at hq <;> rfl⟩

end

/-! ### The frames of the claims -/

theorem InRequests.bus {s t : State} (h : InRequests s t) : t.bus = s.bus := by rw [h]

theorem InRequests.tracked {s t : State} (h : InRequests s t) (q : Tracked) : t.tracked q = s.tracked q := by
  rw [h]
  rfl

section
variable {i : Instr} {w : List Tracked}

/-- An instruction that comes to a state `r s` by bus reads, and then writes registers and flags only. -/
theorem readFrame_of_writesOnly {r : State → State} {f : State → State → State}
    (he : ∀ s, exec i s = .next (f s (r s))) (hran : ∀ s, Ran s (r s)) (hreq : ∀ s, InRequests s (r s))
    (hf : ∀ s, WritesOnly w (f s)) : ReadFrame w i := by
  intro s t h
  cases (he s).symm.trans h
  obtain ⟨hin, hu⟩ := hf s (r s)
  have hr : Ran s (f s (r s)) := .registers (hran s) hin
  have hhalt : (f s (r s)).haltReason = s.haltReason := by rw [hin, hreq s]
  have hbus : (f s (r s)).bus = s.bus := by rw [hin, (hreq s).bus]
  exact ⟨fun q hq => (hu q hq).trans ((hreq s).tracked q), hhalt, hr.specialsKept, hr.pendingKept, hbus,
    State.peek_congr hbus⟩

/-- An instruction that reads its operand, and then writes registers and flags only. -/
theorem readFrame_of_readsThen {o : Operand} {f : Byte → State → State} (hf : ∀ v, WritesOnly w (f v))
    (he : ∀ s, ReadsThen o s f i) : ReadFrame w i :=
  readFrame_of_writesOnly (f := fun s => f (readOperand o s).1) he (fun _ => Ran.refl.readOperand o)
    (inRequests_readOperand o) fun _ => hf _

end

end Sys2Proof.Machine
end

section
/-! The statements of spec/41_addressing_modes.md. -/

open Sys2Proof Sys2Proof.Machine Sys2Proof.Claims

namespace Sys2Proof.Proofs

/-- Settles O50: each of these instructions reads its operand and writes the registers and flags it names. -/
theorem frameOfReadingInstructions : Obligations.FrameOfReadingInstructions := by
  refine ⟨ldaForms_of_performs fun i o he => ?lda, ldxForms_of_performs fun i o he => ?ldx,
    ldyForms_of_performs fun i o he => ?ldy, adcForms_of_performs fun i o he => ?adc,
    sbcForms_of_performs fun i o he => ?sbc, cmpForms_of_performs fun i o he => ?cmp,
    cpxForms_of_performs fun i o he => ?cpx, cpyForms_of_performs fun i o he => ?cpy,
    andForms_of_performs fun i o he => ?and, oraForms_of_performs fun i o he => ?ora,
    eorForms_of_performs fun i o he => ?eor, bitForms_of_performs fun i m he => ?bit⟩
  case lda => exact readFrame_of_readsThen (fun v => writesOnly_putNZ writesRegister_setA fun _ => v) he
  case ldx => exact readFrame_of_readsThen (fun v => writesOnly_putNZ writesRegister_setX fun _ => v) he
  case ldy => exact readFrame_of_readsThen (fun v => writesOnly_putNZ writesRegister_setY fun _ => v) he
  case adc => exact readFrame_of_readsThen writesOnly_addFlags he
  case sbc => exact readFrame_of_readsThen (fun v => writesOnly_addFlags (onesComplement v)) he
  case cmp => exact readFrame_of_readsThen (fun v => writesOnly_compareFlags v State.a) he
  case cpx => exact readFrame_of_readsThen (fun v => writesOnly_compareFlags v State.x) he
  case cpy => exact readFrame_of_readsThen (fun v => writesOnly_compareFlags v State.y) he
  case and => exact readFrame_of_readsThen (fun v => writesOnly_putNZ writesRegister_setA fun s => s.a &&& v) he
  case ora => exact readFrame_of_readsThen (fun v => writesOnly_putNZ writesRegister_setA fun s => s.a ||| v) he
  case eor => exact readFrame_of_readsThen (fun v => writesOnly_putNZ writesRegister_setA fun s => s.a ^^^ v) he
  case bit => exact readFrame_of_readsThen writesOnly_bitFlags he

/-- Settles O10: the sums in numbers, and the reads by definition. -/
theorem effectiveAddresses : Obligations.EffectiveAddresses := by
  refine fun s ll w => ⟨⟨toNat_zext16 ll, rfl⟩, ⟨toNat_zext16_add ll s.x, rfl⟩, ⟨toNat_zext16_add ll s.y, rfl⟩, rfl,
    ⟨toNat_add_zext16 w s.x, rfl⟩, ⟨toNat_add_zext16 w s.y, rfl⟩, rfl, ?indx, ?indy, fun _ => rfl, fun _ => rfl⟩
  case indx =>
    rw [← toNat_zext16_add, BitVec.ofNat_toNat, BitVec.setWidth_eq]
    rfl
  case indy =>
    rw [← zext16_eq_ofNat]
    exact ⟨toNat_add_zext16 _ s.y, rfl⟩

end Sys2Proof.Proofs
end

section
/-! SUPPORT. `SetNZ` in numbers, and the operations that set Z and N from the register they write
(spec/42_load_store_transfer.md R130). -/

namespace Sys2Proof.Machine

open Sys2Proof.Claims

theorem beq_zero_eq_decide_toNat (v : Byte) : (v == 0#8) = decide (v.toNat = 0) :=
  decide_eq_decide.mpr BitVec.toNat_eq

theorem getLsbD_seven_eq_decide (v : Byte) : v.getLsbD 7 = decide (128 ≤ v.toNat) :=
  v.msb_eq_getLsbD_last.symm.trans v.msb_eq_decide

theorem setNZ_eq_nz (v : Byte) (f : Flags) : setNZ v f = nz v f := by
  rw [setNZ, beq_zero_eq_decide_toNat, getLsbD_seven_eq_decide]
  rfl

theorem not_nz_zero_and_negative (v : Byte) (f : Flags) : ¬((nz v f).z = true ∧ (nz v f).n = true) := by
  simp only [nz, decide_eq_true_eq]
  omega

theorem putNZ_eq_with_nz (put : State → Byte → State) (v : Byte) (s : State) :
    putNZ put v s = { put s v with flags := nz v s.flags } := by
  rw [putNZ, setNZ_eq_nz]
  rfl

section
variable {i : Instr} {put : State → Byte → State}

/-- A load: the operand read leaves the flags, so Z and N are set among the flags from before it (R131 to R133). -/
theorem readsThen_of_putNZ {o : Operand}
    (he : ∀ s, exec i s = .next (putNZ put (readOperand o s).1 (readOperand o s).2)) (s : State) :
    ReadsThen o s (fun m u => { put u m with flags := nz m s.flags }) i := by
  rw [ReadsThen, he, putNZ_eq_with_nz, readOperand_flags]

/-- A transfer of the register `r` (R137 to R142). -/
theorem impliedForm_of_putNZ {opcode : Byte} (put : State → Byte → State) (r : State → Byte)
    (hf : formOf opcode = .plain i) (he : ∀ s, exec i s = .next (putNZ put (r s) s)) :
    ImpliedForm opcode i fun i => ∀ s, exec i s = .next { put s (r s) with flags := nz (r s) s.flags } :=
  ⟨decode_of_plain hf, fun s => by rw [he, putNZ_eq_with_nz]⟩

end

end Sys2Proof.Machine
end

section
/-! The statements of spec/42_load_store_transfer.md. -/

open Sys2Proof Sys2Proof.Machine Sys2Proof.Claims

namespace Sys2Proof.Proofs

/-- Settles O6: the model's `SetNZ` is the one in numbers, where no byte is both 0 and at least 128. -/
theorem setNZRule : Obligations.SetNZRule := by
  intro v f
  rw [setNZ_eq_nz]
  exact ⟨rfl, not_nz_zero_and_negative v f⟩

/-- Settles O12: a load reads its operand and puts the byte into its register. -/
theorem loadsLoadTheRegister : Obligations.LoadsLoadTheRegister :=
  ⟨ldaForms_of_performs fun _ _ he => readsThen_of_putNZ (put := State.setA) he,
    ldxForms_of_performs fun _ _ he => readsThen_of_putNZ (put := State.setX) he,
    ldyForms_of_performs fun _ _ he => readsThen_of_putNZ (put := State.setY) he⟩

/-- Settles O13: a store is the write of its operand by definition, and that write touches nothing that is tracked. -/
theorem storesWriteTheRegister : Obligations.StoresWriteTheRegister :=
  ⟨staForms_of_performs fun _ _ he => he, stxForms_of_performs fun _ _ he => he,
    styForms_of_performs fun _ _ he => he,
    fun s m v q => untouched_writeOperand s v m q List.not_mem_nil⟩

/-- Settles O14: each transfer puts its source register into its destination. -/
theorem transfersCopyAndSetNZ : Obligations.TransfersCopyAndSetNZ :=
  ⟨impliedForm_of_putNZ State.setX State.a rfl fun _ => rfl, impliedForm_of_putNZ State.setY State.a rfl fun _ => rfl,
    impliedForm_of_putNZ State.setA State.x rfl fun _ => rfl, impliedForm_of_putNZ State.setA State.y rfl fun _ => rfl,
    impliedForm_of_putNZ State.setX State.sp rfl fun _ => rfl,
    impliedForm_of_putNZ State.setSp State.x rfl fun _ => rfl⟩

end Sys2Proof.Proofs
end

section
/-! SUPPORT. The adder, the comparison and the modify of a byte of memory, in numbers
(spec/43_arithmetic_compare.md R150 to R158). -/

namespace Sys2Proof.Machine

open Sys2Proof.Claims

/-! ### The adder -/

section
variable (a m : Byte) (c : Bool) (f : Flags)

/-- The same-sign rule on the bits 7 (R150), in numbers. -/
theorem addWithCarry_overflow :
    (addWithCarry a m c).overflow = decide ((128 ≤ a.toNat ↔ 128 ≤ m.toNat) ∧
      ¬(128 ≤ (addWithCarry a m c).result.toNat ↔ 128 ≤ a.toNat)) := by
  rw [Bool.eq_iff_iff]
  simp only [addWithCarry, getLsbD_seven_eq_decide, Bool.and_eq_true, beq_iff_eq, bne_iff_ne, ne_eq,
    decide_eq_true_eq, decide_eq_decide]

theorem addFlags_eq_sumFlags :
    addFlags (addWithCarry a m c) f =
      sumFlags a m (BitVec.ofNat 8 (a.toNat + m.toNat + c.toNat)) (a.toNat + m.toNat + c.toNat) f := by
  rw [addFlags, setNZ_eq_nz, addWithCarry_overflow]
  rfl

theorem toNat_onesComplement : (onesComplement m).toNat = 255 - m.toNat := by
  have hm : onesComplement m = ~~~m := BitVec.xor_allOnes
  rw [hm, BitVec.toNat_not]

/-- The sum that SBC asks the adder for is the difference plus 256 (R152). -/
theorem sum_onesComplement :
    ((a.toNat + (onesComplement m).toNat + c.toNat : Nat) : Int) = (a.toNat : Int) - m.toNat - (1 - c.toNat) + 256 := by
  rw [toNat_onesComplement]
  omega

theorem ofNat_sum_onesComplement :
    BitVec.ofNat 8 (a.toNat + (onesComplement m).toNat + c.toNat) =
      BitVec.ofInt 8 ((a.toNat : Int) - m.toNat - (1 - c.toNat)) := by
  rw [← BitVec.ofInt_natCast, sum_onesComplement]
  apply BitVec.eq_of_toNat_eq
  simp only [BitVec.toNat_ofInt]
  omega

/-- The same-sign rule on the complemented operand: it says that the signed difference does not fit a byte. -/
theorem subtraction_overflow_iff :
    ((128 ≤ a.toNat ↔ 128 ≤ (onesComplement m).toNat) ∧
      ¬(128 ≤ (BitVec.ofInt 8 ((a.toNat : Int) - m.toNat - (1 - c.toNat))).toNat ↔ 128 ≤ a.toNat)) ↔
      ¬(-128 ≤ a.toInt - m.toInt - (1 - c.toNat) ∧ a.toInt - m.toInt - (1 - c.toNat) ≤ 127) := by
  have hc := c.toNat_le
  rw [toNat_onesComplement, BitVec.toNat_ofInt, BitVec.toInt_eq_toNat_cond, BitVec.toInt_eq_toNat_cond]
  omega

/-- The flags of SBC: the carry out of the complemented sum says that there was no borrow. -/
theorem sumFlags_onesComplement :
    sumFlags a (onesComplement m) (BitVec.ofInt 8 ((a.toNat : Int) - m.toNat - (1 - c.toNat)))
        (a.toNat + (onesComplement m).toNat + c.toNat) f =
      nz (BitVec.ofInt 8 ((a.toNat : Int) - m.toNat - (1 - c.toNat)))
        { f with
          c := decide (0 ≤ (a.toNat : Int) - m.toNat - (1 - c.toNat))
          v := decide (¬(-128 ≤ a.toInt - m.toInt - (1 - c.toNat) ∧ a.toInt - m.toInt - (1 - c.toNat) ≤ 127)) } := by
  have hsum := sum_onesComplement a m c
  have hcarry : 256 ≤ a.toNat + (onesComplement m).toNat + c.toNat ↔
      0 ≤ (a.toNat : Int) - m.toNat - (1 - c.toNat) := by omega
  rw [sumFlags, decide_eq_decide.mpr hcarry, decide_eq_decide.mpr (subtraction_overflow_iff a m c)]

/-- The operand cancels when it is taken from the sum that a byte keeps (R163). -/
theorem difference_of_sum (c2 : Bool) :
    BitVec.ofInt 8 (((BitVec.ofNat 8 (a.toNat + m.toNat + c.toNat)).toNat : Int) - m.toNat - (1 - c2.toNat)) =
      BitVec.ofInt 8 ((a.toNat : Int) + c.toNat + c2.toNat - 1) := by
  apply BitVec.eq_of_toNat_eq
  simp only [BitVec.toNat_ofInt, BitVec.toNat_ofNat]
  omega

/-- Two carries add one in all exactly when they differ. -/
theorem ofInt_add_carries_eq_iff (c2 : Bool) :
    BitVec.ofInt 8 ((a.toNat : Int) + c.toNat + c2.toNat - 1) = a ↔ c ≠ c2 := by
  have hdiffer : c ≠ c2 ↔ c.toNat + c2.toNat = 1 := by decide +revert
  rw [BitVec.toNat_eq, BitVec.toNat_ofInt, hdiffer]
  have hc := c.toNat_le
  have hc2 := c2.toNat_le
  omega

end

/-! ### The comparison -/

theorem compareFlags_eq_compared (r m : Byte) (f : Flags) : compareFlags r m f = compared r m f := by
  simp only [compareFlags, compared, BitVec.toNat_eq, getLsbD_seven_eq_decide]

/-! ### The instructions -/

section
variable {i : Instr} {o : Operand} {m : MemOperand}

/-- ADC and SBC, where the adder is given `g` of the operand (R151, R152). -/
theorem readsThen_of_addWithCarry {g : Byte → Byte} (he : ∀ s, exec i s =
      .next (((readOperand o s).2.setA
        (addWithCarry (readOperand o s).2.a (g (readOperand o s).1) (readOperand o s).2.flags.c).result).setFlags
        (addFlags (addWithCarry (readOperand o s).2.a (g (readOperand o s).1) (readOperand o s).2.flags.c)
          (readOperand o s).2.flags))) (s : State) :
    ReadsThen o s (fun v u =>
      { u with
        a := BitVec.ofNat 8 (s.a.toNat + (g v).toNat + s.flags.c.toNat)
        flags := sumFlags s.a (g v) (BitVec.ofNat 8 (s.a.toNat + (g v).toNat + s.flags.c.toNat))
          (s.a.toNat + (g v).toNat + s.flags.c.toNat) s.flags }) i := by
  rw [ReadsThen, he, readOperand_a, readOperand_flags, addFlags_eq_sumFlags]
  rfl

/-- A comparison with the register `r`, which the operand read leaves (R154 to R156). -/
theorem readsThen_of_compareFlags {r : State → Byte} (hr : ∀ s, r (readOperand o s).2 = r s)
    (he : ∀ s, exec i s = .next ((readOperand o s).2.setFlags
      (compareFlags (r (readOperand o s).2) (readOperand o s).1 (readOperand o s).2.flags))) (s : State) :
    ReadsThen o s (fun v u => { u with flags := compared (r s) v s.flags }) i := by
  rw [ReadsThen, he, hr, readOperand_flags, compareFlags_eq_compared]
  rfl

/-- A modify of a byte of memory: the read leaves the flags that result and flags are computed from (R124). -/
theorem modifiesMemory_of_modifyOperand {result : Byte → Flags → Byte} {flags : Byte → Flags → Flags}
    (he : ∀ s, exec i s = .next (modifyOperand (.mem m) result flags s)) (s : State) :
    ModifiesMemory m s (fun v => result v s.flags) (fun v => flags v s.flags) i := by
  have hf : (busRead (effAddr m s).1 (effAddr m s).2).2.flags = s.flags := readOperand_flags s (.mem m)
  rw [ModifiesMemory, he, modifyOperand, hf]
  rfl

end

theorem add_one_eq_ofNat (v : Byte) : v + 1#8 = BitVec.ofNat 8 (v.toNat + 1) := by
  bv_omega

theorem sub_one_eq_ofNat (v : Byte) : v - 1#8 = BitVec.ofNat 8 (v.toNat + 255) := by
  bv_omega

end Sys2Proof.Machine
end

section
/-! The statements of spec/43_arithmetic_compare.md. -/

open Sys2Proof Sys2Proof.Machine Sys2Proof.Claims

namespace Sys2Proof.Proofs

/-- Settles O15: the adder is given the operand itself. -/
theorem adcAddsWithCarry : Obligations.AdcAddsWithCarry :=
  adcForms_of_performs fun _ _ he => readsThen_of_addWithCarry (g := fun v => v) he

/-- Settles O16: the adder is given the complement of the operand, and its sum is the difference plus 256. -/
theorem sbcSubtractsWithBorrow : Obligations.SbcSubtractsWithBorrow :=
  sbcForms_of_performs fun _ o he s => by
    have hadd := readsThen_of_addWithCarry (o := o) (g := onesComplement) he s
    simpa only [sumFlags_onesComplement, ofNat_sum_onesComplement] using hadd

/-- Settles O17: each comparison gives its own register to `Compare`. -/
theorem comparesSetZCN : Obligations.ComparesSetZCN :=
  ⟨cmpForms_of_performs fun _ o he => readsThen_of_compareFlags (r := State.a) (fun s => readOperand_a s o) he,
    cpxForms_of_performs fun _ o he => readsThen_of_compareFlags (r := State.x) (fun s => readOperand_x s o) he,
    cpyForms_of_performs fun _ o he => readsThen_of_compareFlags (r := State.y) (fun s => readOperand_y s o) he⟩

/-- Settles O18: the memory forms modify one byte, the register forms put a byte into X or Y. -/
theorem incrementsAndDecrements : Obligations.IncrementsAndDecrements := by
  refine ⟨incForms_of_performs fun _ _ he s => ?inc, decForms_of_performs fun _ _ he s => ?dec,
    impliedForm_of_putNZ State.setX (fun s => BitVec.ofNat 8 (s.x.toNat + 1)) rfl fun s => ?inx,
    impliedForm_of_putNZ State.setY (fun s => BitVec.ofNat 8 (s.y.toNat + 1)) rfl fun s => ?iny,
    impliedForm_of_putNZ State.setX (fun s => BitVec.ofNat 8 (s.x.toNat + 255)) rfl fun s => ?dex,
    impliedForm_of_putNZ State.setY (fun s => BitVec.ofNat 8 (s.y.toNat + 255)) rfl fun s => ?dey⟩
  case inc => simpa only [setNZ_eq_nz, add_one_eq_ofNat] using modifiesMemory_of_modifyOperand he s
  case dec => simpa only [setNZ_eq_nz, sub_one_eq_ofNat] using modifiesMemory_of_modifyOperand he s
  case inx => rw [← add_one_eq_ofNat]; rfl
  case iny => rw [← add_one_eq_ofNat]; rfl
  case dex => rw [← sub_one_eq_ofNat]; rfl
  case dey => rw [← sub_one_eq_ofNat]; rfl

theorem adcImm_a {b : Byte} {s u : State} (h : exec (.adcImm b) s = .next u) :
    u.a = BitVec.ofNat 8 (s.a.toNat + b.toNat + s.flags.c.toNat) := by
  obtain ⟨-, -, hadc, -⟩ := adcAddsWithCarry
  cases ((hadc b).2 s).symm.trans h
  rfl

theorem sbcImm_a (b : Byte) (s : State) :
    ∃ t, exec (.sbcImm b) s = .next t ∧ t.a = BitVec.ofInt 8 ((s.a.toNat : Int) - b.toNat - (1 - s.flags.c.toNat)) := by
  obtain ⟨-, -, hsbc, -⟩ := sbcSubtractsWithBorrow
  exact ⟨_, (hsbc b).2 s, rfl⟩

/-- Settles O49: the operand is added and taken away again, so the two carries alone tell whether A comes back. -/
theorem adcThenSbcRoundTrip : Obligations.AdcThenSbcRoundTrip := by
  intro s u b c2 hadc
  obtain ⟨t, ht, ha⟩ := sbcImm_a b { u with flags := { u.flags with c := c2 } }
  have hback : t.a = BitVec.ofInt 8 ((s.a.toNat : Int) + s.flags.c.toNat + c2.toNat - 1) := by
    rw [ha, adcImm_a hadc, difference_of_sum]
  refine ⟨t, ht, hback, ?_⟩
  rw [hback, ofInt_add_carries_eq_iff]

end Sys2Proof.Proofs
end

section
/-! SUPPORT. The logic operations and BIT after the operand read, and the shifts in numbers
(spec/44_logic_shift_bit.md R170 to R178). -/

namespace Sys2Proof.Machine

open Sys2Proof.Claims

/-! ### Logic and BIT -/

section
variable {i : Instr}

/-- AND, ORA and EOR combine the byte with A, which the operand read leaves (R170 to R172). -/
theorem readsThen_of_combineA {op : Byte → Byte → Byte} {o : Operand} (he : ∀ s, exec i s =
      .next (putNZ State.setA (op (readOperand o s).2.a (readOperand o s).1) (readOperand o s).2)) (s : State) :
    ReadsThen o s (fun m u => { u with a := op s.a m, flags := nz (op s.a m) s.flags }) i := by
  rw [ReadsThen, he, putNZ_eq_with_nz, readOperand_a, readOperand_flags]
  rfl

/-- BIT computes its flags from the byte and from the A and the flags that the operand read leaves (R173). -/
theorem readsThen_of_bitTest {m : MemOperand} (he : ∀ s, exec i s = .next (bitTest m s)) (s : State) :
    ReadsThen (.mem m) s (fun v u =>
      { u with flags := { s.flags with v := v.getLsbD 6, n := v.getLsbD 7, z := decide (v &&& s.a = 0#8) } }) i := by
  rw [ReadsThen, he, bitTest, readOperand_flags, ← readOperand_a s (.mem m)]
  rfl

end

/-! ### The shifts in numbers -/

section
variable (v : Byte) (c : Bool) (k : ShiftKind)

theorem toNat_carryByte : ((BitVec.ofBool c).setWidth 8).toNat = c.toNat := by
  cases c <;> rfl

theorem shiftLeft_one_eq_ofNat : v <<< 1 = BitVec.ofNat 8 (2 * v.toNat) := by
  bv_omega

theorem shiftRight_one_eq_ofNat : v >>> 1 = BitVec.ofNat 8 (v.toNat / 2) := by
  bv_omega

/-- The shift to the left leaves an even number, so the old carry is added without overlap. -/
theorem shiftLeft_one_or_carry :
    (v <<< 1) ||| (BitVec.ofBool c).setWidth 8 = BitVec.ofNat 8 (2 * v.toNat + c.toNat) := by
  have heven : (v <<< 1).toNat = 2 ^ 1 * (v.toNat % 128) := by bv_omega
  have hcarry : c.toNat < 2 ^ 1 := c.toNat_lt
  apply BitVec.eq_of_toNat_eq
  rw [BitVec.toNat_or, heven, toNat_carryByte, ← Nat.two_pow_add_eq_or_of_lt hcarry]
  bv_omega

/-- The shift to the right leaves a number below 128, so the old carry is added as bit 7 without overlap. -/
theorem shiftRight_one_or_carry :
    (v >>> 1) ||| ((BitVec.ofBool c).setWidth 8 <<< 7) = BitVec.ofNat 8 (v.toNat / 2 + 128 * c.toNat) := by
  have hlow : (v >>> 1).toNat < 2 ^ 7 := by bv_omega
  have hbit : ((BitVec.ofBool c).setWidth 8 <<< 7).toNat = 2 ^ 7 * c.toNat := by cases c <;> rfl
  rw [BitVec.or_comm]
  apply BitVec.eq_of_toNat_eq
  rw [BitVec.toNat_or, hbit, ← Nat.two_pow_add_eq_or_of_lt hlow]
  bv_omega

theorem getLsbD_zero_eq_decide : v.getLsbD 0 = decide (v.toNat % 2 = 1) :=
  Nat.testBit_zero v.toNat

theorem shiftResult_eq_shifted : shiftResult k v c = (shifted k v c).1 := by
  cases k with
  | asl => exact shiftLeft_one_eq_ofNat v
  | lsr => exact shiftRight_one_eq_ofNat v
  | rol => exact shiftLeft_one_or_carry v c
  | ror => exact shiftRight_one_or_carry v c

theorem shiftOut_eq_shifted : shiftOut k v = (shifted k v c).2 := by
  cases k with
  | asl | rol => exact getLsbD_seven_eq_decide v
  | lsr | ror => exact getLsbD_zero_eq_decide v

theorem shiftFlags_eq_nz_shifted (f : Flags) :
    shiftFlags k v f = nz (shifted k v f.c).1 { f with c := (shifted k v f.c).2 } := by
  rw [shiftFlags, setNZ_eq_nz, shiftResult_eq_shifted, shiftOut_eq_shifted v f.c]

end

/-- A shift in either place (R175 to R178): the old carry goes into result and flags before it is overwritten. -/
theorem shifts_of_shift {k : ShiftKind} {i : Instr} {p : Place} (he : ∀ s, exec i s = .next (shift k p s)) (s : State) :
    Shifts k i p s := by
  cases p with
  | acc =>
    rw [Shifts, he, shift, modifyOperand, shiftFlags_eq_nz_shifted, shiftResult_eq_shifted]
    rfl
  | mem m =>
    simpa only [Shifts, shiftFlags_eq_nz_shifted, shiftResult_eq_shifted] using modifiesMemory_of_modifyOperand he s

end Sys2Proof.Machine
end

section
/-! The statements of spec/44_logic_shift_bit.md. -/

open Sys2Proof Sys2Proof.Machine Sys2Proof.Claims

namespace Sys2Proof.Proofs

/-- Settles O20: every form performs the shift of its kind at its place. -/
theorem shiftsAndRotates : Obligations.ShiftsAndRotates :=
  ⟨fun s => aslForms_of_performs fun _ _ he => shifts_of_shift he s,
    fun s => lsrForms_of_performs fun _ _ he => shifts_of_shift he s,
    fun s => rolForms_of_performs fun _ _ he => shifts_of_shift he s,
    fun s => rorForms_of_performs fun _ _ he => shifts_of_shift he s⟩

/-- Settles O19: AND, ORA and EOR put their combination into A, and BIT writes flags only. -/
theorem logicAndBitTest : Obligations.LogicAndBitTest :=
  ⟨andForms_of_performs fun _ _ he => readsThen_of_combineA (op := fun a m => a &&& m) he,
    oraForms_of_performs fun _ _ he => readsThen_of_combineA (op := fun a m => a ||| m) he,
    eorForms_of_performs fun _ _ he => readsThen_of_combineA (op := fun a m => a ^^^ m) he,
    bitForms_of_performs fun _ _ he => readsThen_of_bitTest he⟩

end Sys2Proof.Proofs
end

section
/-! SUPPORT. One push and one pull in each of their two cases, in the terms of the claims (spec/45_stack.md R191 to R193). -/

namespace Sys2Proof.Machine

open Sys2Proof.Claims

theorem stackAddr_eq_stackByte (sp : Byte) : stackAddr sp = stackByte sp := by
  rw [stackAddr, zext16_eq_ofNat]
  exact (BitVec.ofNat_add 256 sp.toNat).symm

theorem stackAddr_injective {b c : Byte} (h : stackAddr b = stackAddr c) : b = c := by
  have hz : zext16 b = zext16 c := (BitVec.add_right_inj Config.stackBase).mp h
  apply BitVec.eq_of_toNat_eq
  rw [← toNat_zext16, hz, toNat_zext16]

/-- The first cause of a halt stays, any other is recorded (R193). -/
theorem halt_eq_fatal (r : HaltReason) (s : State) : halt r s = fatal r s := by
  cases hr : s.haltReason <;> simp [halt, fatal, State.setFlags, State.setHaltReason, hr]

theorem push_overflow {s : State} (v : Byte) (h : s.sp = 0x00#8) :
    push v s = halt .stackOverflow ((busWrite 0x0100#16 v s).setSp 0xFF#8) := by
  have ha : stackAddr 0x00#8 = 0x0100#16 := by decide
  simp [push, h, ha]

theorem pullStep_underflow {s : State} (h : s.sp = 0xFF#8) :
    pullStep s = halt .stackUnderflow (s.setSp 0x00#8) := by
  simp [pullStep, pullUnderflows, h]

end Sys2Proof.Machine
end

section
/-! SUPPORT. Pushes and pulls over RAM in the stack page: which slots stay RAM, what a push keeps above SP, and pulls
after pushes (spec/45_stack.md R190 to R192). -/

namespace Sys2Proof.Machine

open Sys2Proof.Claims Sys2Proof.Safety

theorem sameShape_covers {d e : Device} (h : SameShape d e) (a : Nat) : e.covers a = d.covers a := by
  obtain ⟨_, hbase, hsize, _, _⟩ := h
  simp [Device.covers, hbase, hsize]

/-- The owners after bus accesses are the owners before, but for their stored bytes. -/
theorem ownerIn_of_sameShape {ds es : List Device} (h : List.Forall₂ SameShape ds es) {a : Nat} {d : Device}
    (ho : ownerIn ds a = some d) : ∃ e, ownerIn es a = some e ∧ SameShape d e := by
  induction h with
  | nil => cases ho
  | @cons d' e' _ _ hde _ ih =>
    have hc : e'.covers a = d'.covers a := sameShape_covers hde a
    simp only [ownerIn, hc] at ho ⊢
    split at ho
    · next hcov => cases ho; exact ⟨e', by simp [hcov], hde⟩
    · next hcov => simpa [hcov] using ih ho

/-- Bus accesses leave RAM where it is. -/
theorem Reached.ramAt {s t : State} (h : Reached s t) {a : Word} (hr : RamAt s a) : RamAt t a := by
  obtain ⟨d, ho, hread, hwrite, hstore⟩ := hr
  obtain ⟨e, he, hde⟩ := ownerIn_of_sameShape h.sameOwners ho
  have hs := hde.isStorage
  obtain ⟨_, _, _, hread', hwrite'⟩ := hde
  exact ⟨e, he, hread' ▸ hread, hwrite' ▸ hwrite, hs.trans hstore⟩

theorem plainAt_of_ramAt {s : State} {a : Word} (h : RamAt s a) : s.plainAt a = true := by
  obtain ⟨d, ho, _, _, hs⟩ := h
  exact Bus.plainAt_of_storage ho hs

theorem peek_push_ne {s : State} {a : Word} (v : Byte) (h : a ≠ stackAddr s.sp) : (push v s).peek a = s.peek a := by
  simp only [State.peek, push_bus]
  exact Bus.peek_write_ne _ v h

theorem peek_push_self {s : State} (v : Byte) (hb : BusOk s) (h : RamAt s (stackAddr s.sp)) :
    (push v s).peek (stackAddr s.sp) = v := by
  obtain ⟨d, ho, hr, hw, hs⟩ := h
  simp only [State.peek, push_bus]
  exact Bus.peek_write_self v hb ho hr hw hs

theorem Reached.pushAll (vs : List Byte) (s : State) : Reached s (pushAll vs s) := by
  induction vs generalizing s with
  | nil => exact .refl
  | cons v vs ih => exact (Reached.refl.push v).trans (ih (Machine.push v s))

/-- Pushes that do not overflow go downwards: every byte above SP stays. -/
theorem peek_pushAll_above (vs : List Byte) {s : State} {b : Byte} (hn : vs.length ≤ s.sp.toNat)
    (hb : s.sp.toNat < b.toNat) : (pushAll vs s).peek (stackAddr b) = s.peek (stackAddr b) := by
  induction vs generalizing s with
  | nil => rfl
  | cons v vs ih =>
    rw [List.length_cons] at hn
    have hsp : (push v s).sp.toNat = s.sp.toNat - 1 := by rw [push_sp]; bv_omega
    have hne : stackAddr b ≠ stackAddr s.sp := fun h => by
      rw [stackAddr_injective h] at hb
      exact Nat.lt_irrefl _ hb
    calc (pushAll vs (push v s)).peek (stackAddr b)
      _ = (push v s).peek (stackAddr b) := ih (by omega) (by omega)
      _ = s.peek (stackAddr b) := peek_push_ne v hne

/-- The pull that comes last stands at the end of the list of bytes. -/
theorem pullMany_succ (n : Nat) (s : State) :
    pullMany (n + 1) s = ((pullMany n s).1 ++ [(pull (pullMany n s).2).1], (pull (pullMany n s).2).2) := by
  induction n generalizing s with
  | zero => rfl
  | succ n ih =>
    calc pullMany (n + 1 + 1) s
      _ = ((pull s).1 :: (pullMany (n + 1) (pull s).2).1, (pullMany (n + 1) (pull s).2).2) := rfl
      _ = _ := by rw [ih]; rfl

/-- After a push into RAM and pushes and pulls below it, the next pull gives the byte of that push: `b` is the bus that
those left. -/
theorem pull_setBus_push {s : State} {v : Byte} {b : Bus} (hsp : s.sp ≠ 0x00#8) (hp : RamAt s (stackAddr s.sp))
    (hplain : b.plainAt (stackAddr s.sp) = true) (hv : b.peek (stackAddr s.sp) = v) :
    pull ((push v s).setBus b) = (v, s.setBus b) := by
  have hup : ((push v s).setBus b).sp + 1#8 = s.sp := by simp
  have hne : ((push v s).setBus b).sp ≠ 0xFF#8 := by
    simp only [State.setBus_sp, push_sp]
    bv_omega
  have hrestored : ((push v s).setBus b).setSp s.sp = s.setBus b := by
    rw [push_of_ne v hsp, busWrite_plain v (plainAt_of_ramAt hp)]
    rfl
  rw [pull_plain hne (by rw [hup]; exact hplain), hup, hrestored, State.peek_setBus, hv]

/-- Pulling as many bytes as were pushed into RAM gives them in reverse, and the state from before the pushes but for the
bus. -/
theorem pullMany_pushAll (vs : List Byte) {s : State} (hb : BusOk s) (hram : ∀ b : Byte, RamAt s (stackAddr b))
    (hn : vs.length ≤ s.sp.toNat) :
    pullMany vs.length (pushAll vs s) = (vs.reverse, s.setBus (pushAll vs s).bus) := by
  induction vs generalizing s with
  | nil => rfl
  | cons v vs ih =>
    rw [List.length_cons] at hn
    have hpush : Reached s (push v s) := Reached.refl.push v
    have hsp : (push v s).sp.toNat = s.sp.toNat - 1 := by rw [push_sp]; bv_omega
    have hbelow : pullMany vs.length (pushAll vs (push v s)) =
        (vs.reverse, (push v s).setBus (pushAll vs (push v s)).bus) :=
      ih (hpush.busOk hb) (fun b => hpush.ramAt (hram b)) (by omega)
    have hkept : (pushAll vs (push v s)).peek (stackAddr s.sp) = v :=
      (peek_pushAll_above vs (by omega) (by omega)).trans (peek_push_self v hb (hram s.sp))
    have hplain : (pushAll vs (push v s)).plainAt (stackAddr s.sp) = true :=
      plainAt_of_ramAt ((hpush.trans (.pushAll vs _)).ramAt (hram s.sp))
    have hlast : pull ((push v s).setBus (pushAll vs (push v s)).bus) = (v, s.setBus (pushAll vs (push v s)).bus) :=
      pull_setBus_push (fun h => by simp [h] at hn) (hram s.sp) hplain hkept
    simp only [List.length_cons, pushAll, pullMany_succ, hbelow, hlast, List.reverse_cons]

end Sys2Proof.Machine
end

section
/-! SUPPORT. The frames of the instructions that push, pull and jump: each is a chain of bus accesses, register writes and
halts, and a halt only where a push or a pull wraps SP (spec/45_stack.md R193, spec/46_control_flow.md). -/

namespace Sys2Proof.Claims

open Sys2Proof.Machine

theorem jmpForms_of_performs {P : Instr → MemOperand → Prop} (h : ∀ i m, Performs jmp i m → P i m) : JmpForms P :=
  ⟨.of_performs h rfl fun _ _ => rfl, .of_performs h rfl fun _ _ => rfl⟩

theorem Untouched.mono {w w' : List Tracked} {s t : State} (h : Untouched w s t) (hw : w ⊆ w') : Untouched w' s t :=
  fun q hq => h q fun hmem => hq (hw hmem)

theorem Untouched.trans {w : List Tracked} {s t u : State} (h : Untouched w s t) (k : Untouched w t u) :
    Untouched w s u :=
  fun q hq => (k q hq).trans (h q hq)

theorem Untouched.b {w : List Tracked} {s t : State} (h : Untouched w s t) (hb : .brk ∉ w) : t.flags.b = s.flags.b :=
  calc t.flags.b
    _ = Bool.ofNat t.flags.b.toNat := (Bool.ofNat_toNat _).symm
    _ = Bool.ofNat s.flags.b.toNat := congrArg Bool.ofNat (h .brk hb)
    _ = s.flags.b := Bool.ofNat_toNat _

end Sys2Proof.Claims

namespace Sys2Proof.Machine

open Sys2Proof.Claims Sys2Proof.Safety

theorem Ran.trans {s t u : State} (h : Ran s t) (k : Ran t u) : Ran s u := by
  induction k with
  | refl => exact h
  | registers _ hu ih => exact .registers ih hu
  | read a _ ih => exact .read a ih
  | write a v _ ih => exact .write a v ih
  | halt r _ ih => exact .halt r ih

/-- The registers and flags of `w` are what a run from `s` to `t` writes, and unless SP has the room that `fits` says, B
and the halt reason too (R193). -/
structure StackFrame (w : List Tracked) (fits : Prop) (s t : State) : Prop where
  ran : Ran s t
  untouched : Untouched (.brk :: w) s t
  kept : fits → Untouched w s t ∧ t.haltReason = s.haltReason

section
variable {w w' : List Tracked} {p p' : Prop} {s t u : State}

theorem StackFrame.mono (h : StackFrame w p s t) (hw : w ⊆ w') (hp : p' → p) : StackFrame w' p' s t where
  ran := h.ran
  untouched := h.untouched.mono (List.cons_subset_cons _ hw)
  kept hp' := (h.kept (hp hp')).imp_left fun hu => hu.mono hw

theorem StackFrame.append (h : StackFrame w p s t) (k : StackFrame w' p' t u) : StackFrame (w ++ w') (p ∧ p') s u where
  ran := h.ran.trans k.ran
  untouched := (h.untouched.mono (by simp)).trans (k.untouched.mono (by simp))
  kept := fun ⟨hp, kp⟩ => by
    obtain ⟨hu, hr⟩ := h.kept hp
    obtain ⟨ku, kr⟩ := k.kept kp
    exact ⟨(hu.mono (by simp)).trans (ku.mono (by simp)), kr.trans hr⟩

theorem stackFrame_of_kept (hr : Ran s t) (hu : Untouched w s t) (hh : t.haltReason = s.haltReason) :
    StackFrame w True s t :=
  ⟨hr, hu.mono (List.subset_cons_self ..), fun _ => ⟨hu, hh⟩⟩

theorem stackFrame_of_writesOnly {f : State → State} (hf : WritesOnly w f) (s : State) : StackFrame w True s (f s) := by
  obtain ⟨hin, hu⟩ := hf s
  exact stackFrame_of_kept (.registers .refl hin) hu (by rw [hin])

end

section
variable (s : State)

theorem stackFrame_busRead (a : Word) : StackFrame [] True s (busRead a s).2 :=
  stackFrame_of_kept (.read a .refl) (fun q _ => (inRequests_busRead a s).tracked q) (busRead_haltReason s a)

theorem stackFrame_busWrite (a : Word) (v : Byte) : StackFrame [] True s (busWrite a v s) :=
  stackFrame_of_kept (.write a v .refl) (untouched_writeOperand s v (.abs a)) (busWrite_haltReason s a v)

theorem stackFrame_setSp (v : Byte) : StackFrame [.sp] True s (s.setSp v) :=
  stackFrame_of_writesOnly (fun t => writesRegister_setSp t v) s

theorem stackFrame_halt (r : HaltReason) : StackFrame [] False s (halt r s) where
  ran := .halt r .refl
  untouched q hq := by cases q <;> simp at hq <;> rfl
  kept := False.elim

theorem stackFrame_push (v : Byte) : StackFrame [.sp] (1 ≤ s.sp.toNat) s (push v s) := by
  by_cases h : s.sp = 0x00#8
  · rw [push_overflow v h]
    refine (((stackFrame_busWrite s _ v).append (stackFrame_setSp _ _)).append (stackFrame_halt _ _)).mono
      (by simp) fun hp => ?_
    simp [h] at hp
  · rw [push_of_ne v h]
    exact ((stackFrame_busWrite s _ v).append (stackFrame_setSp _ _)).mono (by simp) (by simp)

theorem stackFrame_pullStep : StackFrame [.sp] (s.sp.toNat + 1 ≤ 255) s (pullStep s) := by
  by_cases h : s.sp = 0xFF#8
  · rw [pullStep_underflow h]
    refine ((stackFrame_setSp s _).append (stackFrame_halt _ _)).mono (by simp) fun hp => ?_
    simp [h] at hp
  · rw [pullStep_of_ne h]
    exact (stackFrame_setSp s _).mono (by simp) (by simp)

theorem stackFrame_pull : StackFrame [.sp] (s.sp.toNat + 1 ≤ 255) s (pull s).2 :=
  ((stackFrame_pullStep s).append (stackFrame_busRead _ _)).mono (by simp) (by simp)

theorem stackFrame_pushWord (w : Word) : StackFrame [.sp] (2 ≤ s.sp.toNat) s (pushWord w s) := by
  refine ((stackFrame_push s _).append (stackFrame_push _ _)).mono (by simp) fun hp => ?_
  rw [push_sp]
  bv_omega

theorem stackFrame_pullWord : StackFrame [.sp] (s.sp.toNat + 2 ≤ 255) s (pullWord s).2 := by
  refine ((stackFrame_pull s).append (stackFrame_pull _)).mono (by simp) fun hp => ?_
  rw [pull_sp]
  bv_omega

theorem writesOnly_setFlags (f : Flags) :
    WritesOnly [.carry, .zero, .interruptDisable, .decimal, .brk, .overflow, .negative] fun s => s.setFlags f :=
  fun _ => ⟨rfl, fun q hq => by cases q <;> simp at hq <;> rfl⟩

theorem writesOnly_setPc (v : Word) : WritesOnly [.pc] fun s => s.setPc v :=
  fun _ => ⟨rfl, fun q hq => by cases q <;> simp at hq <;> rfl⟩

theorem stackFrame_pullFlags :
    StackFrame [.sp, .carry, .zero, .interruptDisable, .decimal, .brk, .overflow, .negative] (s.sp.toNat + 1 ≤ 255) s
      (pullFlags s) :=
  ((stackFrame_pull s).append (stackFrame_of_writesOnly (writesOnly_setFlags _) _)).mono (by simp) (by simp)

/-- RTI pulls the flags and PC and clears I, then `servicing` ends (R229, R250). -/
theorem exec_rti_stackFrame : ∃ u,
    StackFrame [.pc, .sp, .carry, .zero, .interruptDisable, .decimal, .brk, .overflow, .negative]
      (s.sp.toNat + 3 ≤ 255) s u ∧ u.bus = s.bus ∧ exec .rti s = .next (u.setServicing false) := by
  have hpulls := (stackFrame_pullFlags s).append (stackFrame_pullWord (pullFlags s))
  have hpc := hpulls.append (stackFrame_of_writesOnly (writesOnly_setPc (pullWord (pullFlags s)).1) _)
  refine ⟨_, (hpc.append (stackFrame_of_writesOnly (writesOnly_setFlags _) _)).mono (by simp) fun hp => ?_, ?_, rfl⟩
  · simp only [pullFlags_sp, and_true]
    bv_omega
  · simp

end

/-! ### The frames of the claims -/

section
variable {i : Instr} {w : List Tracked} {n : Nat} {f : State → State} (he : ∀ s, exec i s = .next (f s))
include he

theorem pushFrame_of_stackFrame {stored : State → List Word} (hf : ∀ s, StackFrame w (n ≤ s.sp.toNat) s (f s))
    (hb : .brk ∉ w) (hm : ∀ s, MemoryKeptOutside (stored s) s (f s)) : PushFrame n w stored i := by
  intro s t h
  cases (he s).symm.trans h
  obtain ⟨hran, hu, hk⟩ := hf s
  exact ⟨hu, fun hn => (hk hn).imp_left fun hw => hw.b hb, hran.specialsKept, hran.pendingKept, hm s⟩

theorem pullFrame_of_stackFrame (hf : ∀ s, StackFrame w (s.sp.toNat + n ≤ 255) s (f s)) (hb : .brk ∉ w)
    (hbus : ∀ s, (f s).bus = s.bus) : PullFrame n w i := by
  intro s t h
  cases (he s).symm.trans h
  obtain ⟨hran, hu, hk⟩ := hf s
  exact ⟨hu, fun hn => (hk hn).imp_left fun hw => hw.b hb, hran.specialsKept, hran.pendingKept, hbus s,
    State.peek_congr (hbus s)⟩

end

theorem memoryKeptOutside_push (v : Byte) (s : State) : MemoryKeptOutside [stackAddr s.sp] s (push v s) :=
  fun _ ha => peek_push_ne v (by simpa using ha)

theorem memoryKeptOutside_pushWord (w : Word) (s : State) :
    MemoryKeptOutside [stackAddr s.sp, stackAddr (s.sp - 1#8)] s (pushWord w s) := by
  intro a ha
  obtain ⟨hhigh, hlow⟩ : a ≠ stackAddr s.sp ∧ a ≠ stackAddr (s.sp - 1#8) := by simpa using ha
  exact (peek_push_ne _ (by rwa [push_sp])).trans (peek_push_ne _ hhigh)

end Sys2Proof.Machine
end

section
/-! The statements of spec/45_stack.md. -/

open Sys2Proof Sys2Proof.Machine Sys2Proof.Claims

namespace Sys2Proof.Proofs

/-- Settles O46, by induction over the pushed bytes: the pulls come back to the state before the pushes but for the bus. -/
theorem stackIsLastInFirstOut : Obligations.StackIsLastInFirstOut := by
  intro vs s hb hram hn
  rw [pullMany_pushAll vs hb hram hn]
  exact ⟨rfl, rfl, rfl, rfl⟩

/-- Settles O53: each of these instructions is a chain of pushes or pulls, and then of register writes. -/
theorem frameOfStackAndTransferOfControl : Obligations.FrameOfStackAndTransferOfControl := by
  have hpush {i} {v : State → Byte} (he : ∀ s, exec i s = .next (push (v s) s)) :
      PushFrame 1 [.sp] (fun s => [stackAddr s.sp]) i :=
    pushFrame_of_stackFrame he (fun s => stackFrame_push s (v s)) (by decide) fun s => memoryKeptOutside_push (v s) s
  refine ⟨hpush fun _ => rfl, hpush fun _ => rfl, fun w => ?jsr, ?pla, ?rts, jmpForms_of_performs fun i m he => ?jmp,
    fun s t h => ?plp, fun s t h => ?rti, fun s t h => ?brk⟩
  case jsr =>
    refine pushFrame_of_stackFrame (f := jsr w) (fun _ => rfl) (fun s => ?_) (by decide)
      fun s => memoryKeptOutside_pushWord _ s
    exact ((stackFrame_pushWord s _).append (stackFrame_of_writesOnly (writesOnly_setPc w) _)).mono (by simp) (by simp)
  case pla =>
    refine pullFrame_of_stackFrame (fun _ => rfl) (fun s => ?_) (by decide) pull_bus
    have hput := writesOnly_putNZ writesRegister_setA fun _ => (pull s).1
    exact ((stackFrame_pull s).append (stackFrame_of_writesOnly hput _)).mono (by simp) (by simp)
  case rts =>
    refine pullFrame_of_stackFrame (fun _ => rfl) (fun s => ?_) (by decide) pullWord_bus
    exact ((stackFrame_pullWord s).append (stackFrame_of_writesOnly (writesOnly_setPc _) _)).mono (by simp) (by simp)
  case jmp =>
    exact readFrame_of_writesOnly (f := fun s t => t.setPc (effAddr m s).1) he (fun _ => Ran.refl.effAddr m)
      (inRequests_effAddr m) fun _ => writesOnly_setPc _
  case plp =>
    cases h
    obtain ⟨hran, hu, hk⟩ := stackFrame_pullFlags s
    have hbus : (plp s).bus = s.bus := pullFlags_bus s
    exact ⟨hu.mono (by simp), fun hn => (hk hn).2, hran.specialsKept, hran.pendingKept, hbus, State.peek_congr hbus⟩
  case rti =>
    obtain ⟨u, ⟨hran, hu, hk⟩, hbus, hrti⟩ := exec_rti_stackFrame s
    cases hrti.symm.trans h
    exact ⟨hu.mono (by simp), fun hn => (hk hn).2, hran.invalidOpcodeCount, hran.exit, hran.inputs, hran.pendingKept,
      hbus, State.peek_congr hbus⟩
  case brk =>
    cases h
    exact ⟨(stackFrame_halt s _).untouched, (stackFrame_halt s _).ran.specialsKept, rfl, rfl, rfl, rfl, fun _ => rfl⟩

/-- Settles O21: the two cases of a push and of a pull, with the claims' names for the address and the halt. -/
theorem pushAndPullDiscipline : Obligations.PushAndPullDiscipline := by
  refine ⟨fun v s h => ?push, fun v s h => ?overflow, fun s h => ?pull, fun s h => ?underflow⟩
  case push =>
    have hsp : s.sp - 1#8 = BitVec.ofNat 8 (s.sp.toNat - 1) := by bv_omega
    rw [push_of_ne v h, stackAddr_eq_stackByte, hsp]
    rfl
  case overflow =>
    rw [push_overflow v h, halt_eq_fatal]
    rfl
  case pull =>
    have hsp : s.sp + 1#8 = BitVec.ofNat 8 (s.sp.toNat + 1) := by bv_omega
    rw [pull, pullStep_of_ne h, stackAddr_eq_stackByte, State.setSp_sp, hsp]
    rfl
  case underflow =>
    rw [pull, pullStep_underflow h, halt_eq_fatal]
    rfl

/-- Settles O22: each instruction is its push or pull by definition; Z and N of PLA in numbers. -/
theorem stackInstructions : Obligations.StackInstructions :=
  ⟨⟨decode_of_plain rfl, fun _ => rfl⟩, ⟨decode_of_plain rfl, fun _ => rfl⟩,
    ⟨decode_of_plain rfl, fun s => congrArg _ (putNZ_eq_with_nz State.setA (pull s).1 (pull s).2)⟩,
    ⟨decode_of_plain rfl, fun _ => rfl⟩⟩

end Sys2Proof.Proofs
end

section
/-! SUPPORT. A branch in numbers, and a call with its return: the word JSR pushes is the word RTS pulls
(spec/41_addressing_modes.md R123, spec/46_control_flow.md R200, R210, R211). -/

namespace Sys2Proof.Machine

open Sys2Proof.Claims Sys2Proof.Safety

/-- The target of R123 as a sum of integers modulo 65536. -/
theorem branchTarget_eq_ofInt (off : Int) (s : State) : branchTarget off s = BitVec.ofInt 16 (s.pc.toNat + off) := by
  rw [BitVec.ofInt_add, BitVec.ofInt_natCast, BitVec.ofNat_toNat, BitVec.setWidth_eq]
  rfl

theorem branch_eq_with_pc (c : Bool) (off : Int) (s : State) :
    branch c off s = { s with pc := if c then BitVec.ofInt 16 (s.pc.toNat + off) else s.pc } := by
  rw [← branchTarget_eq_ofInt]
  cases c <;> rfl

/-- A branch on the condition `cond` (R200). -/
theorem relForm_of_branch {opcode : Byte} {k : Int → Instr} {cond : Flags → Bool} (hf : formOf opcode = .rel k)
    (he : ∀ off s, exec (k off) s = .next (branch (cond s.flags) off s)) : RelForm opcode k (Branches cond) :=
  ⟨decode_of_rel hf, fun off s => by rw [he, branch_eq_with_pc]⟩

section
variable (s : State) (w : Word)

/-! No bus access and no push looks at PC. -/

theorem busWrite_setPc (a : Word) (v : Byte) : busWrite a v (s.setPc w) = (busWrite a v s).setPc w := by
  simp only [busWrite, State.setPc_bus]
  split
  · rfl
  · split
    · unfold Device.handed
      split <;> rfl
    · rfl

theorem push_setPc (v : Byte) : push v (s.setPc w) = (push v s).setPc w := by
  simp only [push, State.setPc_sp, busWrite_setPc]
  split <;> rfl

theorem pushWord_setPc (r : Word) : pushWord r (s.setPc w) = (pushWord r s).setPc w := by
  simp only [pushWord, push_setPc]

end

/-- A word pulled right after its push into RAM comes back, and the state from before the push but for the bus. -/
theorem pullWord_pushWord (w : Word) {s : State} (hb : BusOk s) (hram : ∀ b : Byte, RamAt s (stackAddr b))
    (hn : 2 ≤ s.sp.toNat) : pullWord (pushWord w s) = (w, s.setBus (pushWord w s).bus) := by
  have hpulls : pullMany 2 (pushWord w s) = ([lowByte w, highByte w], s.setBus (pushWord w s).bus) :=
    pullMany_pushAll [highByte w, lowByte w] hb hram hn
  simp only [pullMany, Prod.mk.injEq, List.cons.injEq, and_true] at hpulls
  obtain ⟨⟨hlow, hhigh⟩, hstate⟩ := hpulls
  simp only [pullWord, hlow, hhigh, hstate, wordOf_bytes]

/-- RTS after JSR: the state from before the call but for the bus, at the instruction after the JSR. -/
theorem rts_jsr (w : Word) {s : State} (hb : BusOk s) (hram : ∀ b : Byte, RamAt s (stackAddr b))
    (hn : 2 ≤ s.sp.toNat) : rts (jsr w s) = s.setBus (jsr w s).bus := by
  have hcall : jsr w s = pushWord (s.pc - 1#16) (s.setPc w) := (pushWord_setPc s w _).symm
  have hpull : pullWord (jsr w s) = (s.pc - 1#16, (s.setPc w).setBus (jsr w s).bus) := by
    rw [hcall]
    exact pullWord_pushWord _ hb hram hn
  simp only [rts, hpull, BitVec.sub_add_cancel]
  rfl

end Sys2Proof.Machine
end

section
/-! The statements of spec/46_control_flow.md. -/

open Sys2Proof Sys2Proof.Machine Sys2Proof.Claims

namespace Sys2Proof.Proofs

/-- Settles O47: RTS pulls the word that JSR pushed, and its one step up undoes the step down of JSR. -/
theorem jsrThenRtsReturns : Obligations.JsrThenRtsReturns := by
  intro s w hb hram hn
  have hsp : (jsr w s).sp = s.sp - 2#8 := by
    simp only [jsr, State.setPc_sp, pushWord_sp]
    bv_omega
  exact ⟨jsr w s, s.setBus (jsr w s).bus, rfl, rfl, hsp, congrArg _ (rts_jsr w hb hram hn),
    rfl, rfl, rfl, rfl, rfl, rfl⟩

/-- Settles O23: the sign of the operand byte, and each branch with its condition. -/
theorem branchesTestOneFlag : Obligations.BranchesTestOneFlag := by
  refine ⟨fun b => ?sign, relForm_of_branch rfl fun _ _ => rfl, relForm_of_branch rfl fun _ _ => rfl,
    relForm_of_branch rfl fun _ _ => rfl, relForm_of_branch rfl fun _ _ => rfl, relForm_of_branch rfl fun _ _ => rfl,
    relForm_of_branch rfl fun _ _ => rfl, relForm_of_branch rfl fun _ _ => rfl, relForm_of_branch rfl fun _ _ => rfl⟩
  case sign =>
    rw [signed8, BitVec.toInt_eq_toNat_cond]
    split <;> split <;> omega

/-- Settles O24: the jumps, the call and the return are these pushes, pulls and loads of PC by definition. -/
theorem jumpsCallsAndReturns : Obligations.JumpsCallsAndReturns :=
  ⟨jmpForms_of_performs fun _ _ he => he, fun w => ⟨decode_word_bytes rfl w, fun _ => rfl⟩,
    decode_of_plain rfl, fun _ => rfl⟩

end Sys2Proof.Proofs
end

section
/-! SUPPORT. An interrupt entry and RTI as a whole: the state each answers, what an entry leaves in the stack page, what
it writes, and RTI over a stack page without peripherals (spec/60_exceptions.md R246, R247, R250). -/

namespace Sys2Proof.Machine

open Sys2Proof.Claims Sys2Proof.Safety

/-! ### SP over several pushes or pulls -/

theorem sub_one_sub_one (b : Byte) : b - 1#8 - 1#8 = b - 2#8 := by bv_omega

theorem add_one_add_one (b : Byte) : b + 1#8 + 1#8 = b + 2#8 := by bv_omega

/-! ### The state after -/

/-- An entry once its vector is read: PC, `servicing` and its own pending flag (R246, R247). -/
theorem interruptEntry_of_readWord {k : InterruptKind} {s t : State} {w : Word}
    (h : readWord (vectorOf k) (maskAtEntry k (pushContext s)) = (w, t)) :
    interruptEntry k s = clearPending k { t with pc := w, servicing := true } := by
  simp only [interruptEntry, h]
  rfl

/-- RTI once its pulls are made: PC, I and `servicing` (R229). -/
theorem returnFromInterrupt_of_pullWord {s t : State} {w : Word} (h : pullWord (pullFlags s) = (w, t)) :
    returnFromInterrupt s = { t with pc := w, flags := { t.flags with i := false }, servicing := false } := by
  simp only [returnFromInterrupt, h]
  rfl

section
variable (k : InterruptKind) (s : State)

@[simp] theorem clearPending_sp : (clearPending k s).sp = s.sp := by cases k <;> rfl
@[simp] theorem clearPending_bus : (clearPending k s).bus = s.bus := by cases k <;> rfl
@[simp] theorem clearPending_invalidOpcodeCount : (clearPending k s).invalidOpcodeCount = s.invalidOpcodeCount := by
  cases k <;> rfl
@[simp] theorem clearPending_inputs : (clearPending k s).inputs = s.inputs := by cases k <;> rfl
@[simp] theorem clearPending_traffic : (clearPending k s).traffic = s.traffic := by cases k <;> rfl
@[simp] theorem clearPending_tracked (q : Tracked) : (clearPending k s).tracked q = s.tracked q := by cases k <;> rfl

@[simp] theorem maskAtEntry_sp : (maskAtEntry k s).sp = s.sp := by cases k <;> rfl
@[simp] theorem maskAtEntry_bus : (maskAtEntry k s).bus = s.bus := by cases k <;> rfl

@[simp] theorem pushContext_sp : (pushContext s).sp = s.sp - 3#8 := by
  simp only [pushContext, push_sp, pushWord_sp]
  bv_omega

/-- SP goes down by three modulo 256, also when a push overflows (R246, R253). -/
@[simp] theorem interruptEntry_sp : (interruptEntry k s).sp = s.sp - 3#8 := by simp [interruptEntry]

/-- The vector read and the rest of an entry store nothing after the three pushes. -/
@[simp] theorem interruptEntry_bus : (interruptEntry k s).bus = (pushContext s).bus := by simp [interruptEntry]

end

/-! ### What an entry writes -/

section
variable (k : InterruptKind) (s : State)

theorem stackFrame_pushContext : StackFrame [.sp] (3 ≤ s.sp.toNat) s (pushContext s) := by
  refine ((stackFrame_pushWord s s.pc).append (stackFrame_push _ _)).mono (by simp) fun hp => ?_
  rw [pushWord_sp]
  bv_omega

theorem stackFrame_maskAtEntry :
    StackFrame (if k = .irq then [.interruptDisable] else []) True s (maskAtEntry k s) := by
  cases k with
  | nmi => exact stackFrame_of_kept .refl (fun _ _ => rfl) rfl
  | irq => exact stackFrame_of_kept (.registers .refl rfl) (fun q hq => by cases q <;> simp at hq <;> rfl) rfl

theorem stackFrame_readWord (a : Word) : StackFrame [] True s (readWord a s).2 :=
  ((stackFrame_busRead s a).append (stackFrame_busRead _ (a + 1#16))).mono (by simp) (by simp)

/-- An entry pushes, sets I for the IRQ and loads PC; then `servicing` is set and its own pending flag cleared (R246,
R247). -/
theorem interruptEntry_stackFrame : ∃ u,
    StackFrame ((if k = .irq then [.interruptDisable] else []) ++ [.pc, .sp]) (3 ≤ s.sp.toNat) s u ∧
      interruptEntry k s = clearPending k (u.setServicing true) := by
  let t := maskAtEntry k (pushContext s)
  have hmask := (stackFrame_pushContext s).append (stackFrame_maskAtEntry k _)
  have hread := hmask.append (stackFrame_readWord t (vectorOf k))
  have hpc := hread.append (stackFrame_of_writesOnly (writesOnly_setPc (readWord (vectorOf k) t).1) _)
  exact ⟨_, hpc.mono (by simp) (by simp), rfl⟩

theorem untouched_interruptEntry :
    Untouched ((if k = .irq then [.interruptDisable] else []) ++ [.pc, .sp, .brk]) s (interruptEntry k s) := by
  obtain ⟨u, ⟨_, hu, _⟩, he⟩ := interruptEntry_stackFrame k s
  intro q hq
  rw [he, clearPending_tracked]
  exact hu.mono (by simp) q hq

theorem interruptEntry_registers :
    (interruptEntry k s).a = s.a ∧ (interruptEntry k s).x = s.x ∧ (interruptEntry k s).y = s.y := by
  have hu := untouched_interruptEntry k s
  exact ⟨BitVec.eq_of_toNat_eq (hu .a (by simp)), BitVec.eq_of_toNat_eq (hu .x (by simp)),
    BitVec.eq_of_toNat_eq (hu .y (by simp))⟩

theorem memoryKeptOutside_interruptEntry :
    MemoryKeptOutside [stackAddr s.sp, stackAddr (s.sp - 1#8), stackAddr (s.sp - 2#8)] s (interruptEntry k s) := by
  intro a ha
  obtain ⟨hhigh, hlow, hflags⟩ : a ≠ stackAddr s.sp ∧ a ≠ stackAddr (s.sp - 1#8) ∧ a ≠ stackAddr (s.sp - 2#8) := by
    simpa using ha
  have hsp : (pushWord s.pc s).sp = s.sp - 2#8 := by rw [pushWord_sp, sub_one_sub_one]
  calc (interruptEntry k s).peek a
    _ = (pushContext s).peek a := State.peek_congr (interruptEntry_bus k s) a
    _ = (pushWord s.pc s).peek a := peek_push_ne _ (by rwa [hsp])
    _ = s.peek a := memoryKeptOutside_pushWord s.pc s a (by simp [hhigh, hlow])

end

/-! ### The pushed bytes and their way back -/

/-- The byte pushed first stays above the pushes that follow it without an overflow. -/
theorem peek_pushAll_first (v : Byte) (vs : List Byte) {s : State} (hb : BusOk s) (hr : RamAt s (stackAddr s.sp))
    (hn : vs.length < s.sp.toNat) : (pushAll (v :: vs) s).peek (stackAddr s.sp) = v := by
  have hsp : (push v s).sp.toNat = s.sp.toNat - 1 := by rw [push_sp]; bv_omega
  exact (peek_pushAll_above vs (by omega) (by omega)).trans (peek_push_self v hb hr)

/-- The flags that an entry packs are those from before it when its first two pushes do not overflow. -/
theorem pushContext_eq_pushAll {s : State} (hn : 2 ≤ s.sp.toNat) :
    pushContext s = pushAll [highByte s.pc, lowByte s.pc, s.flags.pack] s := by
  have h0 : s.sp ≠ 0x00#8 := by bv_omega
  have h1 : s.sp - 1#8 ≠ 0x00#8 := by bv_omega
  have hflags : (pushWord s.pc s).flags = s.flags := by simp [pushWord, push_flags, h0, h1]
  rw [pushContext, hflags]
  rfl

/-- What an entry leaves on a stack of RAM with room for it: from SP down, PC high, PC low and P (R246, R247, R198). -/
theorem peek_pushContext {s : State} (hb : BusOk s) (hram : ∀ b : Byte, RamAt s (stackAddr b))
    (hn : 3 ≤ s.sp.toNat) :
    (pushContext s).peek (stackAddr s.sp) = highByte s.pc ∧
    (pushContext s).peek (stackAddr (s.sp - 1#8)) = lowByte s.pc ∧
    (pushContext s).peek (stackAddr (s.sp - 2#8)) = s.flags.pack := by
  have hfirst {t : State} (v : Byte) (vs : List Byte) (h : Reached s t) (hv : vs.length < t.sp.toNat) :
      (pushAll (v :: vs) t).peek (stackAddr t.sp) = v :=
    peek_pushAll_first v vs (h.busOk hb) (h.ramAt (hram t.sp)) hv
  have hhigh : (push (highByte s.pc) s).sp = s.sp - 1#8 := push_sp ..
  have hword : (push (lowByte s.pc) (push (highByte s.pc) s)).sp = s.sp - 2#8 := by
    rw [push_sp, hhigh, sub_one_sub_one]
  rw [pushContext_eq_pushAll (by omega), ← hword, ← hhigh]
  refine ⟨hfirst _ [_, _] .refl ?_, hfirst _ [_] (Reached.refl.push _) ?_, hfirst _ [] ((Reached.refl.push _).push _) ?_⟩
  · exact hn
  · rw [hhigh, List.length_singleton]
    bv_omega
  · rw [hword, List.length_nil]
    bv_omega

section
variable {s : State} (hp : ∀ b : Byte, s.plainAt (stackAddr b) = true)
include hp

theorem pullFlags_plain (hn : s.sp.toNat + 1 ≤ 255) :
    pullFlags s = (s.setSp (s.sp + 1#8)).setFlags (Flags.unpack (s.peek (stackAddr (s.sp + 1#8)))) := by
  have hne : s.sp ≠ 0xFF#8 := fun h => by simp [h] at hn
  have hu : pullUnderflows s = false := by simp [pullUnderflows, hne]
  simp only [pullFlags, pull_plain hne (hp _), hu, Bool.or_false]

theorem pullWord_plain (hn : s.sp.toNat + 2 ≤ 255) :
    pullWord s = (wordOf (s.peek (stackAddr (s.sp + 2#8))) (s.peek (stackAddr (s.sp + 1#8))),
      s.setSp (s.sp + 2#8)) := by
  have hlo : s.sp ≠ 0xFF#8 := fun h => by simp [h] at hn
  have hhi : s.sp + 1#8 ≠ 0xFF#8 := by bv_omega
  have hpull : pull (s.setSp (s.sp + 1#8)) = (s.peek (stackAddr (s.sp + 2#8)), s.setSp (s.sp + 2#8)) :=
    add_one_add_one s.sp ▸ pull_plain (s := s.setSp (s.sp + 1#8)) hhi (hp _)
  simp only [pullWord, pull_plain hlo (hp _), hpull]

/-- RTI over a stack page without peripherals: the three bytes above SP are P, PC low and PC high (R229, R250). -/
theorem returnFromInterrupt_plain (hn : s.sp.toNat + 3 ≤ 255) :
    returnFromInterrupt s = { s with
      pc := wordOf (s.peek (stackAddr (s.sp + 3#8))) (s.peek (stackAddr (s.sp + 2#8)))
      sp := s.sp + 3#8
      flags := { Flags.unpack (s.peek (stackAddr (s.sp + 1#8))) with i := false }
      servicing := false } := by
  have hsp3 : s.sp + 1#8 + 2#8 = s.sp + 3#8 := by bv_omega
  have hfit : (s.sp + 1#8).toNat + 2 ≤ 255 := by bv_omega
  have hpulls : pullWord (pullFlags s) = (wordOf (s.peek (stackAddr (s.sp + 3#8))) (s.peek (stackAddr (s.sp + 2#8))),
      (s.setSp (s.sp + 3#8)).setFlags (Flags.unpack (s.peek (stackAddr (s.sp + 1#8))))) := by
    have hword := pullWord_plain (s := (s.setSp (s.sp + 1#8)).setFlags (Flags.unpack (s.peek (stackAddr (s.sp + 1#8)))))
      hp hfit
    simp only [State.setFlags_sp, State.setSp_sp, add_one_add_one, hsp3] at hword
    rw [pullFlags_plain hp (by omega), hword]
    rfl
  rw [returnFromInterrupt_of_pullWord hpulls]
  rfl

end

/-- RTI right after an entry: the state that the entry left, but for PC, SP and the flags from before it with I clear, and
for `servicing` (R250, R252). -/
theorem returnFromInterrupt_interruptEntry (k : InterruptKind) {s : State} (hb : BusOk s)
    (hram : ∀ b : Byte, RamAt s (stackAddr b)) (hn : 3 ≤ s.sp.toNat) :
    returnFromInterrupt (interruptEntry k s) = { interruptEntry k s with
      pc := s.pc
      sp := s.sp
      flags := { s.flags with i := false }
      servicing := false } := by
  have hreached : Reached s (interruptEntry k s) := Reached.refl.interruptEntry k
  have hplain (b : Byte) : (interruptEntry k s).plainAt (stackAddr b) = true :=
    plainAt_of_ramAt (hreached.ramAt (hram b))
  have hsp : (interruptEntry k s).sp = s.sp - 3#8 := interruptEntry_sp k s
  have hsp1 : s.sp - 3#8 + 1#8 = s.sp - 2#8 := by bv_omega
  have hsp2 : s.sp - 3#8 + 2#8 = s.sp - 1#8 := by bv_omega
  have hsp3 : s.sp - 3#8 + 3#8 = s.sp := by bv_omega
  have hpeek := State.peek_congr (interruptEntry_bus k s)
  obtain ⟨hhigh, hlow, hflags⟩ := peek_pushContext hb hram hn
  rw [returnFromInterrupt_plain hplain (by rw [hsp]; bv_omega)]
  simp only [hsp, hsp1, hsp2, hsp3, hpeek, hhigh, hlow, hflags, wordOf_bytes, Proofs.unpack_pack]

end Sys2Proof.Machine
end

section
/-! The statements of spec/47_flags_nop_brk_rti.md. -/

open Sys2Proof Sys2Proof.Machine Sys2Proof.Claims

namespace Sys2Proof.Proofs

/-- Settles O25: each row decodes, and its instruction is the write of its one flag by definition. -/
theorem flagInstructions : Obligations.FlagInstructions :=
  ⟨⟨decode_of_plain rfl, fun _ => rfl⟩, ⟨decode_of_plain rfl, fun _ => rfl⟩, ⟨decode_of_plain rfl, fun _ => rfl⟩,
    ⟨decode_of_plain rfl, fun _ => rfl⟩, ⟨decode_of_plain rfl, fun _ => rfl⟩, ⟨decode_of_plain rfl, fun _ => rfl⟩,
    decode_of_plain rfl, fun _ => rfl⟩

/-- Settles O26: NOP is the identity; BRK is a halt, in the claims' name for it. -/
theorem nopAndBrk : Obligations.NopAndBrk :=
  ⟨⟨decode_of_plain rfl, fun _ => rfl⟩, decode_of_plain rfl, fun s => congrArg _ (halt_eq_fatal .breakHalt s)⟩

/-- Settles O27: the three pulls of RTI are the claim's, then PC, I and `servicing`. -/
theorem rtiPullsFlagsThenPc : Obligations.RtiPullsFlagsThenPc := by
  refine ⟨decode_of_plain rfl, fun s => ?_⟩
  intro p f lo hi
  have hpulls : pullWord (pullFlags s) = (wordOf hi.1 lo.1, hi.2) := rfl
  calc exec .rti s
    _ = .next (returnFromInterrupt s) := rfl
    _ = _ := by rw [returnFromInterrupt_of_pullWord hpulls]

end Sys2Proof.Proofs
end

section
/-! The statements of spec/60_exceptions.md. -/

open Sys2Proof Sys2Proof.Machine Sys2Proof.Safety Sys2Proof.Claims

namespace Sys2Proof.Proofs

/-- Settles O48: RTI pulls the three bytes that the entry pushed, and clears the I that they hold. -/
theorem rtiUndoesInterruptEntry : Obligations.RtiUndoesInterruptEntry := by
  intro k s hb hram hn
  obtain ⟨ha, hx, hy⟩ := interruptEntry_registers k s
  refine ⟨returnFromInterrupt (interruptEntry k s), rfl, ?_⟩
  rw [returnFromInterrupt_interruptEntry k hb hram hn]
  exact ⟨rfl, rfl, ha, hx, hy, rfl, rfl⟩

/-- Settles O54: an entry is a run that pushes and loads PC, and then two of its own flags. -/
theorem frameOfInterruptEntry : Obligations.FrameOfInterruptEntry := by
  intro k s
  obtain ⟨u, ⟨hran, _, hk⟩, he⟩ := interruptEntry_stackFrame k s
  obtain ⟨hnmi, hirq, htraffic, hquiet⟩ := hran.pendingKept
  refine ⟨untouched_interruptEntry k s, fun hn => ?fits, ?count, ?exit, ?inputs, interruptEntry_servicing k s, ?nmi,
    ?irq, ?traffic, fun hs => ?noCalls, memoryKeptOutside_interruptEntry k s⟩
  case fits =>
    obtain ⟨hw, hr⟩ := hk hn
    rw [he, clearPending_flags, clearPending_haltReason]
    exact ⟨hw.b (by cases k <;> decide), hr⟩
  case count => rw [he, clearPending_invalidOpcodeCount]; exact hran.invalidOpcodeCount
  case exit => rw [he, clearPending_exit]; exact hran.exit
  case inputs => rw [he, clearPending_inputs]; exact hran.inputs
  case nmi =>
    rintro rfl
    rw [he]
    exact ⟨rfl, hirq, fun hs => by obtain ⟨_, hi, _⟩ := hquiet hs; exact hi⟩
  case irq =>
    rintro rfl
    rw [he]
    exact ⟨rfl, hnmi, fun hs => by obtain ⟨hn, _, _⟩ := hquiet hs; exact hn⟩
  case traffic => rw [he, clearPending_traffic]; exact htraffic
  case noCalls => rw [he, clearPending_traffic]; obtain ⟨_, _, ht⟩ := hquiet hs; exact ht

/-- Settles O29: an entry with its pushes and reads in the claim's names; SP goes down once for each push. -/
theorem interruptEntrySequences : Obligations.InterruptEntrySequences := by
  refine ⟨fun s => ?nmi, fun s => ?irq, fun k s => ?registers⟩
  case nmi =>
    intro p q lo hi
    have hvector : readWord (vectorOf .nmi) (maskAtEntry .nmi (pushContext s)) = (wordOf hi.1 lo.1, hi.2) := rfl
    rw [interruptEntry_of_readWord hvector]
    rfl
  case irq =>
    intro p q lo hi
    have hvector : readWord (vectorOf .irq) (maskAtEntry .irq (pushContext s)) = (wordOf hi.1 lo.1, hi.2) := rfl
    rw [interruptEntry_of_readWord hvector]
    rfl
  case registers =>
    obtain ⟨ha, hx, hy⟩ := interruptEntry_registers k s
    exact ⟨ha, hx, hy, interruptEntry_sp k s⟩

/-- Settles O30: in service nothing is taken; else a pending NMI comes first, and without one the IRQ's own test is left. -/
theorem interruptTakenWhen : Obligations.InterruptTakenWhen := by
  intro s
  cases hv : s.servicing with
  | true => simp [interruptToTake, hv]
  | false =>
    cases hn : s.nmiPending with
    | true => simp [interruptToTake, hv, hn]
    | false => simp [interruptToTake, hv, hn]

end Sys2Proof.Proofs
end
